-- ==== Sys2Proof/Word.lean ====
section
/-! DEFINITION. The word types of DACENC: bytes, addresses, command and response words, power modes,
12-bit values, the five bytes of a status frame, and the numeric type of the normalized front end. -/

namespace Sys2Proof

/-- One byte of a frame; bit 0 has weight 1 (00_scope.md R6, R9). -/
abbrev Byte := BitVec 8

/-- An 8-bit transport address, naming a bus target (20_memory.md R40). -/
abbrev Addr := BitVec 8

/-- A frame as the block writes it, byte 0 first (00_scope.md R7). -/
abbrev Frame := List Byte

/-- The 24-bit command word CW (30_encoding.md R71). -/
abbrev CmdWord := BitVec 24

/-- The 24-bit response word RW (30_encoding.md R76). -/
abbrev RspWord := BitVec 24

/-- The 2-bit power mode, one number in every format (10_state.md R21, 30_encoding.md R87). -/
abbrev PowerMode := BitVec 2

/-- The 12-bit unsigned output value, 0 to 4095 (10_state.md R22). -/
abbrev DacValue := BitVec 12

/-- The type of a normalized value: the rationals (00_scope.md R5, 43_normalized.md R150). -/
abbrev NormNum := Rat

/-- `Normal` (10_state.md R21). -/
def PowerMode.normal : PowerMode := 0
/-- `ShutdownPullDown1k` (10_state.md R21). -/
def PowerMode.shutdownPullDown1k : PowerMode := 1
/-- `ShutdownPullDown100k` (10_state.md R21). -/
def PowerMode.shutdownPullDown100k : PowerMode := 2
/-- `ShutdownPullDown500k` (10_state.md R21). -/
def PowerMode.shutdownPullDown500k : PowerMode := 3

/-- The five bytes of a status frame, `b0` the first returned byte (20_memory.md R42, 30_encoding.md R84). -/
structure StatusFrame where
  b0 : Byte
  b1 : Byte
  b2 : Byte
  b3 : Byte
  b4 : Byte
  deriving DecidableEq, Repr, Inhabited

end Sys2Proof
end

