-- ==== Sys2Proof/Syntax.lean ====
section
/-! DEFINITION. The syntax: one constructor of `Instr` per row of spec/opcode_table.json, the nine
commands as latched in `cur`, the code words the rows are written in, and the response record. -/

namespace Sys2Proof

/-- The rows of spec/opcode_table.json. The source's operation names are those of 30_encoding.md R95:
PROBE `open()`, GCRESET `reset()`, GCWAKE `wakeup()`, GETMODE `powerMode()`, SETMODE `powerMode(mode)`,
READ `read()`, WRITE `write(value: float)`, WRU12 `write_u12(value: uint16)`, RDEEPROM `readEeprom()`,
WREEPROM `writeEeprom(mode, value)`. -/
inductive Instr where
  /-- PROBE (40_presence_and_general_call.md R101). -/
  | probe
  /-- GCRESET (40_presence_and_general_call.md R102). -/
  | gcreset
  /-- GCWAKE (40_presence_and_general_call.md R103). -/
  | gcwake
  /-- GETMODE (41_dac_register.md R113). -/
  | getmode
  /-- SETMODE mode (41_dac_register.md R114). -/
  | setmode (mode : PowerMode)
  /-- RDVAL (41_dac_register.md R115). -/
  | rdval
  /-- WRU12 value (41_dac_register.md R116). -/
  | wru12 (value : BitVec 16)
  /-- RDEEPROM (42_eeprom.md R131). -/
  | rdeeprom
  /-- WREEPROM mode, value (42_eeprom.md R132). -/
  | wreeprom (mode : PowerMode) (value : BitVec 16)
  /-- Reserved opcode 0x9 (30_encoding.md R90). -/
  | reserved9
  /-- Reserved opcode 0xA (30_encoding.md R90). -/
  | reservedA
  /-- Reserved opcode 0xB (30_encoding.md R90). -/
  | reservedB
  /-- Reserved opcode 0xC (30_encoding.md R90). -/
  | reservedC
  /-- Reserved opcode 0xD (30_encoding.md R90). -/
  | reservedD
  /-- Reserved opcode 0xE (30_encoding.md R90). -/
  | reservedE
  /-- Reserved opcode 0xF (30_encoding.md R90). -/
  | reservedF
  /-- A command word whose reserved field is not zero, whatever its opcode (30_encoding.md R91). -/
  | reservedRsv (op : BitVec 4) (rsv : BitVec 2) (mode : PowerMode) (value : BitVec 16)
  /-- Pseudo-instruction WRITE v (43_normalized.md R153). -/
  | write (v : NormNum)
  /-- Pseudo-instruction READ (43_normalized.md R154). -/
  | read
  /-- General-call reset frame (30_encoding.md R82). -/
  | frameGcReset
  /-- General-call wake-up frame (30_encoding.md R82). -/
  | frameGcWake
  /-- Fast-write frame (30_encoding.md R80). -/
  | frameFastwr (m : PowerMode) (v : DacValue)
  /-- EEPROM-write frame (30_encoding.md R81). -/
  | frameEewr (m : PowerMode) (v : DacValue)
  /-- Status frame, device to block (30_encoding.md R84). -/
  | frameStatus (f : StatusFrame)
  deriving DecidableEq, Repr

/-- The nine commands, as the latch `cur` holds them (10_state.md R20, R23). -/
inductive Command where
  | probe | gcreset | gcwake | getmode | setmode | rdval | wru12 | rdeeprom | wreeprom
  deriving DecidableEq, Repr

/-- Whom a frame the block writes is for: the general-call address or the device's address
(30_encoding.md R89). -/
inductive Target where
  | general | device
  deriving DecidableEq, Repr

/-- The three spaces an opcode-table row is written in: a 24-bit command word (30_encoding.md R70 (1)),
a frame from the block, a frame from the device (R70 (3)). -/
inductive Code where
  | command (cw : CmdWord)
  | down (target : Target) (frame : Frame)
  | up (frame : Frame)
  deriving DecidableEq, Repr

/-- Why a code word is no instruction (rejection by name). -/
inductive DecodeError where
  /-- A frame to the general-call address that is neither 0x06 nor 0x09 alone (30_encoding.md R82). -/
  | unknownGeneralCall
  /-- The empty frame: the probe's, which has no row in the table (30_encoding.md R83). -/
  | probeFrame
  /-- Two bytes to the device whose top bits are not 0b00 (30_encoding.md R80). -/
  | notFastWrite
  /-- Three bytes to the device whose constant bits are not those of R81. -/
  | notEepromWrite
  /-- A length no frame to the device has (30_encoding.md R97). -/
  | badWriteLength
  /-- An answer to a read that is not five bytes (20_memory.md R57). -/
  | badReadLength
  deriving DecidableEq, Repr

/-- Completion statuses (30_encoding.md R77). -/
inductive Status where
  | ok | illegal | timeout
  deriving DecidableEq, Repr

/-- The response record (30_encoding.md R76); a field the command does not return is zero. -/
structure Rsp where
  status : Status
  ack : Bool := false
  mode : PowerMode := 0
  value : DacValue := 0
  deriving DecidableEq, Repr

/-- What the host presents: a command word, or one of the front end's two pseudo-instructions
(00_scope.md R13, 43_normalized.md R153, R154). -/
inductive Request where
  | word (cw : CmdWord)
  | write (v : NormNum)
  | read
  deriving DecidableEq, Repr

end Sys2Proof
end

