-- ==== Sys2Proof/Machine/Operands.lean ====
section
/-! DEFINITION. Operand forms: the fields of the command word, the cut to 12 bits, the packers and
unpackers of the wire frames, and the packing of the response word. -/

namespace Sys2Proof.Machine

/-- `trunc_12`: masking, not clamping (00_scope.md R9, 30_encoding.md R73). -/
def trunc12 (v : BitVec 16) : DacValue := v.extractLsb' 0 12

/-- `zext_16` of a 12-bit value (00_scope.md R8, 30_encoding.md R96). -/
def zext16 (v : DacValue) : BitVec 16 := v.setWidth 16

/-- `op = CW[23:20]` (30_encoding.md R71). -/
def cwOp (cw : CmdWord) : BitVec 4 := cw.extractLsb' 20 4

/-- `rsv = CW[19:18]` (30_encoding.md R71). -/
def cwRsv (cw : CmdWord) : BitVec 2 := cw.extractLsb' 18 2

/-- `mode = CW[17:16]` (30_encoding.md R73). -/
def cwMode (cw : CmdWord) : PowerMode := cw.extractLsb' 16 2

/-- `value = CW[15:0]` (30_encoding.md R73). -/
def cwValue (cw : CmdWord) : BitVec 16 := cw.extractLsb' 0 16

/-- The command word with the four fields of format CMD (30_encoding.md R71). -/
def packCommand (op : BitVec 4) (rsv : BitVec 2) (mode : PowerMode) (value : BitVec 16) : CmdWord :=
  op ++ rsv ++ mode ++ value

/-- The two bytes of a fast write, as numbers of the frame (30_encoding.md R80). -/
def packFast (m : PowerMode) (v : DacValue) : Frame :=
  [0b00#2 ++ m ++ v.extractLsb' 8 4, v.extractLsb' 0 8]

/-- The three bytes of an EEPROM write (30_encoding.md R81). -/
def packEewr (m : PowerMode) (v : DacValue) : Frame :=
  [0b011#3 ++ 0b00#2 ++ m ++ 0b0#1, v.extractLsb' 4 8, v.extractLsb' 0 4 ++ 0b0000#4]

/-- The bytes of a status frame in index order (20_memory.md R46). -/
def statusBytes (f : StatusFrame) : Frame := [f.b0, f.b1, f.b2, f.b3, f.b4]

/-- `unpack_dac` (30_encoding.md R85): mode `f[0][2:1]`, value `f[1] ++ f[2][7:4]`. -/
def unpackDac (f : StatusFrame) : PowerMode × DacValue :=
  (f.b0.extractLsb' 1 2, f.b1 ++ f.b2.extractLsb' 4 4)

/-- `unpack_eeprom` (30_encoding.md R86): mode `f[3][6:5]`, value `f[3][3:0] ++ f[4]`. -/
def unpackEeprom (f : StatusFrame) : PowerMode × DacValue :=
  (f.b3.extractLsb' 5 2, f.b3.extractLsb' 0 4 ++ f.b4)

/-- The mode a fast-write frame carries in byte 0, as a device reads it (20_memory.md R61). -/
def fastMode (b0 : Byte) : PowerMode := b0.extractLsb' 4 2

/-- The value a fast-write frame carries, as a device reads it (20_memory.md R61). -/
def fastValue (b0 b1 : Byte) : DacValue := b0.extractLsb' 0 4 ++ b1

/-- The mode an EEPROM-write frame carries in byte 0, as a device reads it (20_memory.md R62). -/
def eewrMode (b0 : Byte) : PowerMode := b0.extractLsb' 1 2

/-- The value an EEPROM-write frame carries, as a device reads it (20_memory.md R62). -/
def eewrValue (b1 b2 : Byte) : DacValue := b1 ++ b2.extractLsb' 4 4

/-- The first byte marks a fast write: `f[0][7:6] = 0b00` (30_encoding.md R89, 20_memory.md R61). -/
def isFastByte (b0 : Byte) : Bool := b0.extractLsb' 6 2 == 0b00#2

/-- The first byte marks an EEPROM write: `f[0][7:5] = 0b011` (30_encoding.md R89, 20_memory.md R62). -/
def isEewrByte (b0 : Byte) : Bool := b0.extractLsb' 5 3 == 0b011#3

/-- The numeric status code (30_encoding.md R77). -/
def statusCode : Status → BitVec 4
  | .ok => 0
  | .illegal => 1
  | .timeout => 2

/-- The response word RW of a response record (30_encoding.md R76). -/
def packResponse (r : Rsp) : RspWord :=
  statusCode r.status ++ BitVec.ofBool r.ack ++ 0b0#1 ++ r.mode ++ 0b0000#4 ++ r.value

end Sys2Proof.Machine
end

