-- ==== Sys2Proof/Config.lean ====
section
/-! DEFINITION. The parameters of 00_scope.md R5: the constants it fixes, the record of those a model
takes, and the free values, which are constants without a body. -/

namespace Sys2Proof

/-- BROADCAST, the general-call address (00_scope.md R5, 20_memory.md R43). -/
def Config.broadcast : Addr := 0x00

/-- GC_RESET_CODE (00_scope.md R5, 30_encoding.md R82). -/
def Config.gcResetCode : Byte := 0x06

/-- GC_WAKE_CODE (00_scope.md R5, 30_encoding.md R82). -/
def Config.gcWakeCode : Byte := 0x09

/-- STATUS_LEN, the length of every read (00_scope.md R5, 20_memory.md R42). -/
def Config.statusLen : Nat := 5

/-- NORM_SCALE (00_scope.md R5, 43_normalized.md R151, R152). -/
def Config.normScale : Nat := 4095

/-- The parameters a machine is built with (00_scope.md R5). They are configuration: no step changes
them. They stand in a record so that a claim over every state holds for every value of them. -/
structure Params where
  /-- ADDR_SET, OPEN (10_state.md R26; 92_eei_decisions.md D5, D30). -/
  addrSet : List Addr
  /-- POLL_LIMIT, none or a natural of at least 1 (42_eeprom.md R130). -/
  pollLimit : Option Nat
  /-- CACHE_RESET, none or a pair (10_state.md R32). -/
  cacheReset : Option (PowerMode × DacValue)
  /-- WREEPROM_UPDATES_CACHE, OPEN (42_eeprom.md R132). -/
  wreepromUpdatesCache : Bool
  /-- DEV_EEWR_UPDATES_DACREG, OPEN, of the reference device (20_memory.md R62). -/
  devEewrUpdatesDacreg : Bool
  /-- DEV_IGNORES_WRITES_WHEN_BUSY, OPEN, of the reference device (20_memory.md R61, R62). -/
  devIgnoresWritesWhenBusy : Bool
  deriving DecidableEq, Repr

/-- The constraints R5 and 10_state.md R26 put on the parameters: eight distinct addresses, each with
bit 0 clear, none the broadcast address; a poll limit of at least 1. -/
def Params.wf (p : Params) : Bool :=
  p.addrSet.length == 8 && decide p.addrSet.Nodup
    && p.addrSet.all (fun a => !a.getLsbD 0 && a != Config.broadcast)
    && (match p.pollLimit with | none => true | some n => decide (1 ≤ n))

/-- Free value: WREEPROM_UPDATES_CACHE of the machine after reset, OPEN (92_eei_decisions.md D14; log entry 6). -/
opaque Config.wreepromUpdatesCache : Bool

/-- Free value: DEV_EEWR_UPDATES_DACREG after reset, OPEN (92_eei_decisions.md D21; log entry 6). -/
opaque Config.devEewrUpdatesDacreg : Bool

/-- Free value: DEV_IGNORES_WRITES_WHEN_BUSY after reset, OPEN (92_eei_decisions.md D21; log entry 6). -/
opaque Config.devIgnoresWritesWhenBusy : Bool

/-- Free value: the power mode MODE turns out to hold when it is read before any write
(93_implementation_defined.md U1, the draw reading; log entry 3). -/
opaque Config.freeMode : Nat → PowerMode

/-- Free value: the output value VALUE turns out to hold when it is read before any write
(93_implementation_defined.md U1, the draw reading; log entry 3). -/
opaque Config.freeValue : Nat → DacValue

/-- Free value: the ack of a write to the unconstrained environment (20_memory.md R41; log entry 7). -/
opaque Config.freeAck : Nat → Bool

/-- Free value: five bytes of an unconstrained environment or of a failed read
(20_memory.md R42; 93_implementation_defined.md U3; log entry 7). -/
opaque Config.freeFrame : Nat → StatusFrame

/-- Free value: whether the device at an address takes its own step now, when its list of choices has run
out (20_memory.md R64; 93_implementation_defined.md U7; log entry 8). -/
opaque Config.freeBusyEnds : Nat → Addr → Bool

/-- Free value: the bits no decoder reads in the status frame of the device at an address, when its list of
them has run out (20_memory.md R63; 93_implementation_defined.md U2; log entry 8). -/
opaque Config.freeBits : Nat → Addr → StatusFrame

/-- The parameters of the machine after reset: R5's values where it fixes them, the suggested ADDR_SET
(DESIGN CHOICE, log entry 4), and opaque constants for the OPEN Booleans (log entry 6). -/
def Config.params : Params where
  addrSet := [0xC0, 0xC2, 0xC4, 0xC6, 0xC8, 0xCA, 0xCC, 0xCE]
  pollLimit := none
  cacheReset := none
  wreepromUpdatesCache := Config.wreepromUpdatesCache
  devEewrUpdatesDacreg := Config.devEewrUpdatesDacreg
  devIgnoresWritesWhenBusy := Config.devIgnoresWritesWhenBusy

/-- ADDR of the machine after reset (DESIGN CHOICE, log entry 4): the address the spec's test programs use. -/
def Config.addr : Addr := 0xC0

end Sys2Proof
end

