-- ==== Sys2Proof/Machine/State.lean ====
section
/-! DEFINITION. The state as plain data: the block's record (10_state.md R20), the bus between the block
and its environment, the host's requests, the environment, and the reasons a step can stop. -/

namespace Sys2Proof.Machine

/-- The sequencer's control state (10_state.md R24). -/
inductive Phase where
  /-- No command in progress; the command port is open. -/
  | idle
  /-- A MemWrite is outstanding and its ack is awaited. -/
  | wAck
  /-- A MemRead issued by RD_DAC is outstanding. -/
  | wDac
  /-- A MemRead issued by POLL_READY is outstanding. -/
  | wPoll
  deriving DecidableEq, Repr

/-- The one outstanding bus transaction (10_state.md R31 (2)): a request the environment has not yet
answered, or its answer, which the block has not yet taken. -/
inductive Bus where
  /-- Nothing outstanding. -/
  | quiet
  /-- A MemWrite of a frame to a transport address (20_memory.md R41). -/
  | writing (addr : Addr) (frame : Frame)
  /-- A MemRead from a transport address; every read is of STATUS_LEN bytes (20_memory.md R42, R48). -/
  | reading (addr : Addr)
  /-- The input WrRsp(ack) of 10_state.md R24. -/
  | wrRsp (ack : Bool)
  /-- The input RdRsp(frame) of 10_state.md R24, of whatever length the environment gave. -/
  | rdRsp (frame : Frame)
  deriving DecidableEq, Repr

/-- An answer given by the environment from outside the model, of any shape (20_memory.md R57). -/
inductive Answer where
  | ack (a : Bool)
  | bytes (frame : Frame)
  deriving DecidableEq, Repr

/-- A reference device (20_memory.md R60). The last two fields are the model's own, the device's coming
free choices, free values when a list has run out (log entry 8): whether a write in progress ends, one for
each step of the machine (R64), and the bits no decoder reads, one for each read (R63). -/
structure Device where
  devAddr : Addr
  present : Bool
  dmode : PowerMode
  dval : DacValue
  emode : PowerMode
  eval : DacValue
  busy : Bool
  busyEnds : List Bool
  xbits : List StatusFrame
  deriving DecidableEq, Repr

/-- The environment (00_scope.md R13): answers given from outside, in order, and free values after
them (no constraint at all when the list is empty); or the reference devices on the bus (20_memory.md
R60; several of them, 40_presence_and_general_call.md R104). -/
inductive Env where
  | answers (as : List Answer)
  | devices (ds : List Device)
  deriving DecidableEq, Repr

/-- The outputs of the sequencer (10_state.md R24). `done` also carries the result of the front end's
READ, if the command was issued by it (43_normalized.md R154). -/
inductive Output where
  | busWrite (addr : Addr) (frame : Frame)
  | busRead (addr : Addr) (n : Nat)
  | done (rsp : Rsp) (result : Option NormNum)
  deriving DecidableEq, Repr

/-- The whole state. `addr` to `polls` are the block's record (10_state.md R20). -/
structure State where
  /-- The parameters the machine was built with (00_scope.md R5); no step changes them. -/
  cfg : Params
  /-- ADDR (10_state.md R26). -/
  addr : Addr
  /-- MODE, `none` while it holds no value (10_state.md R21, R32, R35). -/
  mode : Option PowerMode
  /-- VALUE, `none` while it holds no value (10_state.md R22, R32, R35). -/
  value : Option DacValue
  /-- The sequencer's phase (10_state.md R24). -/
  phase : Phase
  /-- The command in progress (10_state.md R20). -/
  cur : Command
  /-- WREEPROM's mode operand (10_state.md R20). -/
  lm : PowerMode
  /-- WREEPROM's value operand (10_state.md R20). -/
  lv : DacValue
  /-- Not-ready status frames seen in the current command (10_state.md R20, 60_exceptions.md R171). -/
  polls : Nat
  /-- The model's own: the command in progress was issued by READ (log entry 16). -/
  viaRead : Bool
  /-- What the host will present at the command port, in order (00_scope.md R13). -/
  host : List Request
  /-- A reset event raised from outside, with its argument (70_reset_and_hazards.md R180). -/
  resetReq : Option Addr
  /-- The outstanding bus transaction (10_state.md R31). -/
  bus : Bus
  /-- The environment (00_scope.md R13). -/
  env : Env
  /-- The model's own: every output of the sequencer so far, newest first (log entry 17). -/
  outputs : List Output
  /-- The model's own: how many free values have been taken (log entry 17). -/
  draws : Nat
  deriving DecidableEq, Repr

/-- Why the machine stops with a fault. -/
inductive Fault where
  /-- Raised by the block's step on an answer when the latch `cur` names a command that never waits in
  the current phase, a pair the table of 10_state.md R24 has no row for. Safe: the model stops, and no
  state of `State.Inv` meets it (log entry 14). -/
  | corruptLatch
  deriving DecidableEq, Repr

/-- Why the model does not accept an input. -/
inductive Refusal where
  /-- Raised by an arm of `exec` that has no meaning yet. Safe: no next state is claimed. -/
  | notModelled (mnemonic : String)
  /-- Raised by every command when a command word is presented while `phase` is not IDLE
  (60_exceptions.md R175: not accepted). `step` holds the word back instead. Safe: no transition. -/
  | portClosed
  /-- Raised by the block's step on an ack answer while `phase` is not W_ACK (60_exceptions.md R175).
  Safe: no transition. -/
  | unsolicitedAck
  /-- Raised by the block's step on a bytes answer while `phase` is neither W_DAC nor W_POLL
  (60_exceptions.md R175). Safe: no transition. -/
  | unsolicitedFrame
  /-- Raised by the block's step on a bytes answer that is not five bytes (60_exceptions.md R175).
  Safe: no transition. -/
  | badFrameLength
  deriving DecidableEq, Repr

/-- The machine as constructed with parameters and a bus address (70_reset_and_hazards.md R180, R181;
10_state.md R32). The latches are don't care (log entry 5); nothing is on the bus (R182). -/
def State.construct (p : Params) (addr : Addr) : State where
  cfg := p
  addr := addr
  mode := p.cacheReset.map Prod.fst
  value := p.cacheReset.map Prod.snd
  phase := .idle
  cur := .probe
  lm := 0
  lv := 0
  polls := 0
  viaRead := false
  host := []
  resetReq := none
  bus := .quiet
  env := .answers []
  outputs := []
  draws := 0

/-- The machine right after reset (log entries 2, 4, 6, 7). -/
def State.reset : State := State.construct Config.params Config.addr

end Sys2Proof.Machine
end

