-- ==== Sys2Proof/Machine/Device.lean ====
section
/-! DEFINITION. The reference device of 20_memory.md R60 to R66, an environment and not the block. -/

namespace Sys2Proof.Machine

/-- Whether the device's write in progress ends before this step of the machine: the first of its list of
choices, or a free value (20_memory.md R64; log entry 8). -/
def Device.endsNow (n : Nat) (d : Device) : Bool :=
  match d.busyEnds with
  | [] => Config.freeBusyEnds n d.devAddr
  | b :: _ => b

/-- The device's own step, taken or not: "when `busy`, it may at any time set `busy <- false`"
(20_memory.md R64); the choice is used up. -/
def Device.settle (n : Nat) (d : Device) : Device :=
  { d with busy := d.busy && !d.endsNow n, busyEnds := d.busyEnds.tail }

/-- The bits no decoder reads in the device's next status frame (20_memory.md R63; log entry 8). -/
def Device.nextBits (n : Nat) (d : Device) : StatusFrame :=
  match d.xbits with
  | [] => Config.freeBits n d.devAddr
  | x :: _ => x

/-- A busy device that ignores writes (20_memory.md R61, R62). -/
def Device.ignores (p : Params) (d : Device) : Bool := d.busy && p.devIgnoresWritesWhenBusy

/-- A fast-write frame at the device (20_memory.md R61). -/
def Device.fastWrite (p : Params) (b0 b1 : Byte) (d : Device) : Device :=
  if d.ignores p then d
  else { d with dmode := fastMode b0, dval := fastValue b0 b1 }

/-- An EEPROM-write frame at the device (20_memory.md R62). -/
def Device.eewrWrite (p : Params) (b0 b1 b2 : Byte) (d : Device) : Device :=
  if d.ignores p then d
  else
    { d with
      emode := eewrMode b0, eval := eewrValue b1 b2, busy := true
      dmode := if p.devEewrUpdatesDacreg then eewrMode b0 else d.dmode
      dval := if p.devEewrUpdatesDacreg then eewrValue b1 b2 else d.dval }

/-- A one-byte general call at the device (20_memory.md R65). -/
def Device.generalCall (b : Byte) (d : Device) : Device :=
  if b = Config.gcWakeCode then { d with dmode := PowerMode.normal }
  else if b = Config.gcResetCode then { d with dmode := d.emode, dval := d.eval }
  else d

/-- What a write of frame `f` to address `a` does to the device: R65 at the broadcast address, R61 and
R62 at its own, nothing for any other address or shape (20_memory.md R61, R62, R65, R66; log entry 11). -/
def Device.takeWrite (p : Params) (a : Addr) (f : Frame) (d : Device) : Device :=
  if a = Config.broadcast then
    match f with
    | [b] => d.generalCall b
    | _ => d
  else if a = d.devAddr then
    match f with
    | [b0, b1] => if isFastByte b0 then d.fastWrite p b0 b1 else d
    | [b0, b1, b2] => if isEewrByte b0 then d.eewrWrite p b0 b1 b2 else d
    | _ => d
  else d

/-- Whether the device acknowledges a write to address `a` (20_memory.md R61, R62, R65, R66). -/
def Device.acks (a : Addr) (d : Device) : Bool :=
  (a == Config.broadcast || a == d.devAddr) && d.present

/-- Whether the device answers a read from address `a` (20_memory.md R63, R66; log entry 9). -/
def Device.answersRead (a : Addr) (d : Device) : Bool := a == d.devAddr && d.present

/-- A read from address `a` does not change the device (20_memory.md R63); the bits chosen for it are used
up. -/
def Device.afterRead (a : Addr) (d : Device) : Device :=
  if d.answersRead a then { d with xbits := d.xbits.tail } else d

/-- The status frame the device returns; `x` gives the bits no decoder reads (20_memory.md R63). -/
def Device.status (x : StatusFrame) (d : Device) : StatusFrame where
  b0 := BitVec.ofBool (!d.busy) ++ x.b0.extractLsb' 3 4 ++ d.dmode ++ x.b0.extractLsb' 0 1
  b1 := d.dval.extractLsb' 4 8
  b2 := d.dval.extractLsb' 0 4 ++ x.b2.extractLsb' 0 4
  b3 := x.b3.extractLsb' 7 1 ++ d.emode ++ x.b3.extractLsb' 4 1 ++ d.eval.extractLsb' 8 4
  b4 := d.eval.extractLsb' 0 8

end Sys2Proof.Machine
end

