-- ==== Sys2Proof/Machine/Flags.lean ====
section
/-! DEFINITION. Flags. The block has no flag register (10_state.md R25); the two bits it observes are
the transport's ack, which goes into the response, and RDY, which POLL_READY tests. -/

namespace Sys2Proof.Machine

/-- `rdy(f) = f[0][7]`, true when the device is ready (10_state.md R29, 30_encoding.md R86). -/
def rdy (f : StatusFrame) : Bool := f.b0.getLsbD 7

/-- The poll count has reached the limit: with POLL_LIMIT = n, `polls >= n` (42_eeprom.md R130). -/
def limitReached (limit : Option Nat) (polls : Nat) : Bool :=
  match limit with
  | none => false
  | some n => decide (n ≤ polls)

end Sys2Proof.Machine
end

