-- ==== Sys2Proof/Machine/Normalized.lean ====
section
/-! DEFINITION. The normalized front end's two conversions (43_normalized.md R151, R152), over the rationals. -/

namespace Sys2Proof.Machine

/-- `clamp(v, 0, 1)` (00_scope.md R10). -/
def clamp01 (v : NormNum) : NormNum :=
  if v < 0 then 0 else if 1 < v then 1 else v

/-- `norm_to_u12(v) = floor(clamp(v, 0, 1) * 4095)` (43_normalized.md R151). -/
def normToU12 (v : NormNum) : DacValue :=
  BitVec.ofNat 12 (Rat.floor (clamp01 v * (Config.normScale : NormNum))).toNat

/-- `u12_to_norm(x) = x / 4095` (43_normalized.md R152). -/
def u12ToNorm (x : DacValue) : NormNum :=
  (x.toNat : NormNum) / (Config.normScale : NormNum)

end Sys2Proof.Machine
end

