-- ==== Sys2Proof/Machine/Ops.lean ====
section
/-! DEFINITION. The named operations every meaning is made of: acceptance and completion of a command,
the two raises (the block's exceptions), the cache registers, the bus requests, the procedures RD_DAC,
WR_DAC and POLL_READY, what the environment does with a request, and the reset event. -/

namespace Sys2Proof.Machine

open Sys2Proof.Machine

/-- The outcome type of every step of this machine. -/
abbrev Result := Host.Outcome State Fault Refusal

/-! ### Requests and completion -/

/-- Acceptance of a command: the port's request is consumed, `cur` is latched (10_state.md R24,
40_presence_and_general_call.md R100). `viaRead` says that the front end's READ issued it. -/
def State.accept (c : Command) (viaRead : Bool) (s : State) : State :=
  { s with host := s.host.tail, cur := c, viaRead := viaRead }

/-- Emit BusWrite and wait in W_ACK (20_memory.md R41, 10_state.md R24). -/
def State.issueWrite (a : Addr) (f : Frame) (s : State) : State :=
  { s with phase := .wAck, bus := .writing a f, outputs := .busWrite a f :: s.outputs }

/-- Emit BusRead of STATUS_LEN bytes at ADDR and wait in the phase given (20_memory.md R42, 10_state.md R24). -/
def State.issueRead (p : Phase) (s : State) : State :=
  { s with
    phase := p, bus := .reading s.addr
    outputs := .busRead s.addr Config.statusLen :: s.outputs }

/-- End the command with a response and go to IDLE: `done(...)` (00_scope.md R11, 30_encoding.md R76). -/
def State.finish (r : Rsp) (result : Option NormNum) (s : State) : State :=
  { s with phase := .idle, bus := .quiet, outputs := .done r result :: s.outputs }

/-! ### The exceptions of the block: completion statuses (60_exceptions.md R168) -/

/-- `raise Illegal(cw)`: the word is consumed and answered with ILLEGAL in the same step; no
transaction, no register write, still IDLE (60_exceptions.md R160). -/
def State.raiseIllegal (s : State) : State :=
  { s with host := s.host.tail, outputs := .done { status := .illegal } none :: s.outputs }

/-- `raise Timeout`: the command ends with TIMEOUT and no further effect (60_exceptions.md R163). -/
def State.raiseTimeout (s : State) : State := s.finish { status := .timeout } none

/-- A command word is accepted only in IDLE (10_state.md R24, 60_exceptions.md R175). -/
def State.whenIdle (s next : State) : Result :=
  if s.phase = .idle then .next next else .refused .portClosed

/-! ### The cache registers -/

/-- MODE as it is read: the value it holds, or the free value it turns out to hold
(93_implementation_defined.md U1, the draw reading; log entry 3). -/
def State.modeRead (s : State) : PowerMode :=
  match s.mode with
  | some m => m
  | none => Config.freeMode s.draws

/-- VALUE as it is read, as `modeRead` (93_implementation_defined.md U1; log entry 3). -/
def State.valueRead (s : State) : DacValue :=
  match s.value with
  | some v => v
  | none => Config.freeValue s.draws

/-- The free value drawn by reading MODE is stored, "since a real register would keep its pattern"
(93_implementation_defined.md U1); a MODE that holds a value is left alone. -/
def State.keepMode (s : State) : State :=
  match s.mode with
  | some _ => s
  | none => { s with mode := some s.modeRead, draws := s.draws + 1 }

/-- As `keepMode`, for VALUE. -/
def State.keepValue (s : State) : State :=
  match s.value with
  | some _ => s
  | none => { s with value := some s.valueRead, draws := s.draws + 1 }

/-- `MODE <- m` (10_state.md R35: every write stores a value). -/
def State.setMode (m : PowerMode) (s : State) : State := { s with mode := some m }

/-- `VALUE <- v` (10_state.md R35). -/
def State.setValue (v : DacValue) (s : State) : State := { s with value := some v }

/-- `(MODE, VALUE) <- (m, v)`. -/
def State.loadCache (mv : PowerMode × DacValue) (s : State) : State :=
  (s.setMode mv.1).setValue mv.2

/-! ### The procedures -/

/-- WR_DAC: one fast write of both cache registers at ADDR (41_dac_register.md R112). -/
def State.wrDac (s : State) : State :=
  (s.keepMode.keepValue).issueWrite s.addr (packFast s.modeRead s.keepMode.valueRead)

/-- RD_DAC up to its wait: one status read, phase W_DAC (41_dac_register.md R111). -/
def State.rdDac (s : State) : State := s.issueRead .wDac

/-- POLL_READY up to its first wait: `polls <- 0`, one status read, phase W_POLL (42_eeprom.md R130). -/
def State.pollReady (s : State) : State := { s with polls := 0 }.issueRead .wPoll

/-- One more not-ready frame (42_eeprom.md R130, 10_state.md R24): count it, then TIMEOUT at the limit
or the next read. -/
def State.pollAgain (s : State) : State :=
  if limitReached s.cfg.pollLimit (s.polls + 1) then { s with polls := s.polls + 1 }.raiseTimeout
  else { s with polls := s.polls + 1 }.issueRead .wPoll

/-- WREEPROM after the ready frame: the cache update of WREEPROM_UPDATES_CACHE, then the one
EEPROM-write frame (42_eeprom.md R132). -/
def State.writeEeprom (s : State) : State :=
  (if s.cfg.wreepromUpdatesCache then s.loadCache (s.lm, s.lv) else s).issueWrite s.addr
    (packEewr s.lm s.lv)

/-! ### The sequencer's steps on the environment's answers (10_state.md R24) -/

/-- The input WrRsp(a): the command ends with OK and the transport's ack (10_state.md R24). -/
def State.takeAck (a : Bool) (s : State) : Result :=
  match s.phase with
  | .wAck =>
    match s.cur with
    | .probe | .gcreset | .gcwake | .setmode | .wru12 | .wreeprom =>
      .next (s.finish { status := .ok, ack := a } none)
    | .getmode | .rdval | .rdeeprom => .fault .corruptLatch
  | .idle | .wDac | .wPoll => .refused .unsolicitedAck

/-- RD_DAC on its frame: both cache registers are loaded, and the command returns one of them
(41_dac_register.md R111, R113, R115; READ's division, 43_normalized.md R154). -/
def State.takeDacFrame (f : StatusFrame) (s : State) : Result :=
  match s.cur with
  | .getmode =>
    .next ((s.loadCache (unpackDac f)).finish { status := .ok, mode := (unpackDac f).1 } none)
  | .rdval =>
    .next ((s.loadCache (unpackDac f)).finish { status := .ok, value := (unpackDac f).2 }
      (if s.viaRead then some (u12ToNorm (unpackDac f).2) else none))
  | .probe | .gcreset | .gcwake | .setmode | .wru12 | .rdeeprom | .wreeprom =>
    .fault .corruptLatch

/-- POLL_READY on a frame: poll again while it is not ready; a ready frame is decoded by RDEEPROM
and followed by the write of WREEPROM (42_eeprom.md R130, R131, R132). -/
def State.takePollFrame (f : StatusFrame) (s : State) : Result :=
  if rdy f then
    match s.cur with
    | .rdeeprom =>
      .next (s.finish
        { status := .ok, mode := (unpackEeprom f).1, value := (unpackEeprom f).2 } none)
    | .wreeprom => .next s.writeEeprom
    | .probe | .gcreset | .gcwake | .getmode | .setmode | .rdval | .wru12 => .fault .corruptLatch
  else .next s.pollAgain

/-- The input RdRsp(f) with `f` five bytes (10_state.md R24). -/
def State.takeStatus (f : StatusFrame) (s : State) : Result :=
  match s.phase with
  | .wDac => s.takeDacFrame f
  | .wPoll => s.takePollFrame f
  | .idle | .wAck => .refused .unsolicitedFrame

/-- The input RdRsp(f) with `f` not five bytes (60_exceptions.md R175). -/
def State.refuseFrame (s : State) : Result :=
  match s.phase with
  | .wDac | .wPoll => .refused .badFrameLength
  | .idle | .wAck => .refused .unsolicitedFrame

/-! ### The environment -/

/-- An answer, as it stands on the bus. -/
def Answer.onBus (a : Answer) : Bus :=
  match a with
  | .ack b => .wrRsp b
  | .bytes f => .rdRsp f

/-- Every reference device on the bus takes its own step or not; this can happen at any time
(20_memory.md R64), so it comes before every step of the machine, whatever that is (log entry 8). -/
def State.settleDevices (s : State) : State :=
  match s.env with
  | .answers _ => s
  | .devices ds => { s with env := .devices (ds.map (Device.settle s.draws)), draws := s.draws + 1 }

/-- The environment takes a write of frame `f` to address `a` and answers it: the next answer given
from outside, else a free ack (20_memory.md R41); or every device takes the frame and the ack says
whether one acknowledged it (20_memory.md R61 to R66, 40_presence_and_general_call.md R104). -/
def State.serveWrite (a : Addr) (f : Frame) (s : State) : State :=
  match s.env with
  | .answers [] => { s with bus := .wrRsp (Config.freeAck s.draws), draws := s.draws + 1 }
  | .answers (x :: xs) => { s with bus := x.onBus, env := .answers xs }
  | .devices ds =>
    { s with
      bus := .wrRsp (ds.any (Device.acks a))
      env := .devices (ds.map (Device.takeWrite s.cfg a f)) }

/-- The five bytes the devices return for a read from address `a`: the status frame of the first
present device at it, else unspecified bytes (20_memory.md R63, R66, R42; log entries 9, 10). -/
def readFrame (a : Addr) (n : Nat) (ds : List Device) : StatusFrame :=
  match ds.find? (Device.answersRead a) with
  | some d => d.status (d.nextBits n)
  | none => Config.freeFrame n

/-- The environment answers a read from address `a` (20_memory.md R42, R63, R66). -/
def State.serveRead (a : Addr) (s : State) : State :=
  match s.env with
  | .answers [] =>
    { s with bus := .rdRsp (statusBytes (Config.freeFrame s.draws)), draws := s.draws + 1 }
  | .answers (x :: xs) => { s with bus := x.onBus, env := .answers xs }
  | .devices ds =>
    { s with
      bus := .rdRsp (statusBytes (readFrame a s.draws ds))
      env := .devices (ds.map (Device.afterRead a))
      draws := s.draws + 1 }

/-! ### Reset (70_reset_and_hazards.md R180 to R183) -/

/-- The request on the bus is delivered to the environment; an answer on it stays where it is. -/
def State.deliver (s : State) : State :=
  match s.bus with
  | .writing a f => s.serveWrite a f
  | .reading a => s.serveRead a
  | .quiet | .wrRsp _ | .rdRsp _ => s

/-- The reset event with bus address `a`: the block's record as constructed, the command in progress
abandoned without Done, no new transaction. An outstanding request was already issued, so the
environment has it; its answer is outside the protocol and is dropped (log entry 12). -/
def State.resetBlock (a : Addr) (s : State) : State :=
  { State.construct s.cfg a with
    host := s.host, env := s.deliver.env, outputs := s.outputs, draws := s.deliver.draws }

/-! ### Steps that run no instruction -/

/-- What happens when no instruction is next: the environment serves the request on the bus, the block
takes an ack, refuses a frame that is no status frame, or everything waits for the host (log entry 2). -/
def State.otherStep (s : State) : Result :=
  match s.bus with
  | .quiet => .next s
  | .writing a f => .next (s.serveWrite a f)
  | .reading a => .next (s.serveRead a)
  | .wrRsp k => s.takeAck k
  | .rdRsp _ => s.refuseFrame

end Sys2Proof.Machine
end

