-- ==== Sys2Proof/Machine/DacRegister.lean ====
section
/-! DEFINITION. GETMODE, SETMODE, RDVAL and WRU12 (41_dac_register.md). -/

namespace Sys2Proof.Machine

/-- GETMODE: RD_DAC; the answer is `State.takeDacFrame` (41_dac_register.md R113). -/
def execGetmode (s : State) : Result :=
  s.whenIdle (s.accept .getmode false).rdDac

/-- SETMODE: `MODE <- mode`, then WR_DAC (41_dac_register.md R114). -/
def execSetmode (m : PowerMode) (s : State) : Result :=
  s.whenIdle ((s.accept .setmode false).setMode m).wrDac

/-- RDVAL: RD_DAC; the answer is `State.takeDacFrame` (41_dac_register.md R115). -/
def execRdval (s : State) : Result :=
  s.whenIdle (s.accept .rdval false).rdDac

/-- WRU12: `VALUE <- trunc_12(value)`, then WR_DAC (41_dac_register.md R116). -/
def execWru12 (v : BitVec 16) (s : State) : Result :=
  s.whenIdle ((s.accept .wru12 false).setValue (trunc12 v)).wrDac

end Sys2Proof.Machine
end

