-- ==== Sys2Proof/Machine/Eeprom.lean ====
section
/-! DEFINITION. RDEEPROM and WREEPROM (42_eeprom.md). -/

namespace Sys2Proof.Machine

/-- RDEEPROM: POLL_READY; the answers are `State.takePollFrame` (42_eeprom.md R131). -/
def execRdeeprom (s : State) : Result :=
  s.whenIdle (s.accept .rdeeprom false).pollReady

/-- WREEPROM: latch both operands, then POLL_READY; the answers are `State.takePollFrame` and, after
the write, `State.takeAck` (42_eeprom.md R132). -/
def execWreeprom (m : PowerMode) (v : BitVec 16) (s : State) : Result :=
  s.whenIdle { s.accept .wreeprom false with lm := m, lv := trunc12 v }.pollReady

end Sys2Proof.Machine
end

