-- ==== Sys2Proof/Machine/Frames.lean ====
section
/-! DEFINITION. The wire frames: the four the block writes, as the environment takes and answers them,
and the status frame, as the block takes it (log entry 13). -/

namespace Sys2Proof.Machine

/-- FRAME_GC_RESET: 0x06 at the broadcast address (30_encoding.md R82, 20_memory.md R65). -/
def execFrameGcReset (s : State) : Result :=
  .next (s.serveWrite Config.broadcast [Config.gcResetCode])

/-- FRAME_GC_WAKE: 0x09 at the broadcast address (30_encoding.md R82, 20_memory.md R65). -/
def execFrameGcWake (s : State) : Result :=
  .next (s.serveWrite Config.broadcast [Config.gcWakeCode])

/-- FRAME_FASTWR m v at ADDR (30_encoding.md R80, 20_memory.md R61). -/
def execFrameFastwr (m : PowerMode) (v : DacValue) (s : State) : Result :=
  .next (s.serveWrite s.addr (packFast m v))

/-- FRAME_EEWR m v at ADDR (30_encoding.md R81, 20_memory.md R62). -/
def execFrameEewr (m : PowerMode) (v : DacValue) (s : State) : Result :=
  .next (s.serveWrite s.addr (packEewr m v))

/-- FRAME_STATUS: the input RdRsp(f) (30_encoding.md R84, 10_state.md R24). -/
def execFrameStatus (f : StatusFrame) (s : State) : Result := s.takeStatus f

end Sys2Proof.Machine
end

