-- ==== Sys2Proof/Machine/FrontEnd.lean ====
section
/-! DEFINITION. The pseudo-instructions WRITE and READ (43_normalized.md). -/

namespace Sys2Proof.Machine

/-- WRITE v: issue WRU12 of norm_to_u12(v) (43_normalized.md R153). -/
def execWrite (v : NormNum) (s : State) : Result :=
  s.whenIdle ((s.accept .wru12 false).setValue (trunc12 (zext16 (normToU12 v)))).wrDac

/-- READ: issue RDVAL, remembering that the response is to be divided by 4095 (43_normalized.md R154;
log entry 16). -/
def execRead (s : State) : Result :=
  s.whenIdle (s.accept .rdval true).rdDac

end Sys2Proof.Machine
end

