-- ==== Sys2Proof/Machine/Presence.lean ====
section
/-! DEFINITION. PROBE, GCRESET and GCWAKE (40_presence_and_general_call.md). -/

namespace Sys2Proof.Machine

/-- PROBE: one zero-length write to ADDR (40_presence_and_general_call.md R101). -/
def execProbe (s : State) : Result :=
  s.whenIdle ((s.accept .probe false).issueWrite s.addr [])

/-- GCRESET: the byte 0x06 to the broadcast address (40_presence_and_general_call.md R102). -/
def execGcreset (s : State) : Result :=
  s.whenIdle ((s.accept .gcreset false).issueWrite Config.broadcast [Config.gcResetCode])

/-- GCWAKE: the byte 0x09 to the broadcast address (40_presence_and_general_call.md R103). -/
def execGcwake (s : State) : Result :=
  s.whenIdle ((s.accept .gcwake false).issueWrite Config.broadcast [Config.gcWakeCode])

end Sys2Proof.Machine
end

