-- ==== Sys2Proof/Machine/Reserved.lean ====
section
/-! DEFINITION. The reserved command words: each completes at once with ILLEGAL (30_encoding.md R90,
R91; 60_exceptions.md R160). -/

namespace Sys2Proof.Machine

/-- Opcode 0x9 (30_encoding.md R90). -/
def execReserved9 (s : State) : Result := s.whenIdle s.raiseIllegal

/-- Opcode 0xA (30_encoding.md R90). -/
def execReservedA (s : State) : Result := s.whenIdle s.raiseIllegal

/-- Opcode 0xB (30_encoding.md R90). -/
def execReservedB (s : State) : Result := s.whenIdle s.raiseIllegal

/-- Opcode 0xC (30_encoding.md R90). -/
def execReservedC (s : State) : Result := s.whenIdle s.raiseIllegal

/-- Opcode 0xD (30_encoding.md R90). -/
def execReservedD (s : State) : Result := s.whenIdle s.raiseIllegal

/-- Opcode 0xE (30_encoding.md R90). -/
def execReservedE (s : State) : Result := s.whenIdle s.raiseIllegal

/-- Opcode 0xF (30_encoding.md R90). -/
def execReservedF (s : State) : Result := s.whenIdle s.raiseIllegal

/-- A reserved field that is not zero, whatever the other fields hold (30_encoding.md R91). -/
def execReservedRsv (_op : BitVec 4) (_rsv : BitVec 2) (_mode : PowerMode) (_value : BitVec 16)
    (s : State) : Result := s.whenIdle s.raiseIllegal

end Sys2Proof.Machine
end

