-- ==== Sys2Proof/Machine/Dispatch.lean ====
section
/-! DEFINITION. One arm per constructor of Instr, each one direct call of its meaning. -/

namespace Sys2Proof.Machine

def exec (i : Instr) (s : State) : Host.Outcome State Fault Refusal :=
  match i with
  | .probe => Sys2Proof.Machine.execProbe s
  | .gcreset => Sys2Proof.Machine.execGcreset s
  | .gcwake => Sys2Proof.Machine.execGcwake s
  | .getmode => Sys2Proof.Machine.execGetmode s
  | .setmode m => Sys2Proof.Machine.execSetmode m s
  | .rdval => Sys2Proof.Machine.execRdval s
  | .wru12 v => Sys2Proof.Machine.execWru12 v s
  | .rdeeprom => Sys2Proof.Machine.execRdeeprom s
  | .wreeprom m v => Sys2Proof.Machine.execWreeprom m v s
  | .reserved9 => Sys2Proof.Machine.execReserved9 s
  | .reservedA => Sys2Proof.Machine.execReservedA s
  | .reservedB => Sys2Proof.Machine.execReservedB s
  | .reservedC => Sys2Proof.Machine.execReservedC s
  | .reservedD => Sys2Proof.Machine.execReservedD s
  | .reservedE => Sys2Proof.Machine.execReservedE s
  | .reservedF => Sys2Proof.Machine.execReservedF s
  | .reservedRsv op rsv m v => Sys2Proof.Machine.execReservedRsv op rsv m v s
  | .write v => Sys2Proof.Machine.execWrite v s
  | .read => Sys2Proof.Machine.execRead s
  | .frameGcReset => Sys2Proof.Machine.execFrameGcReset s
  | .frameGcWake => Sys2Proof.Machine.execFrameGcWake s
  | .frameFastwr m v => Sys2Proof.Machine.execFrameFastwr m v s
  | .frameEewr m v => Sys2Proof.Machine.execFrameEewr m v s
  | .frameStatus f => Sys2Proof.Machine.execFrameStatus f s

end Sys2Proof.Machine
end

