-- ==== Sys2Proof/WellFormed.lean ====
section
/-! DEFINITION. Which terms of `Instr` are instructions. The operand types already hold every width
(30_encoding.md R92: there is no illegal operand), so one check is left. -/

namespace Sys2Proof

/-- The one check: RESERVED_RSV is the row "rsv != 0, any op" (30_encoding.md R91). -/
def Instr.wellFormed : Instr → Bool
  | .reservedRsv _ rsv _ _ => rsv != 0#2
  | .probe | .gcreset | .gcwake | .getmode | .setmode _ | .rdval | .wru12 _ | .rdeeprom
  | .wreeprom _ _ | .reserved9 | .reservedA | .reservedB | .reservedC | .reservedD | .reservedE
  | .reservedF | .write _ | .read | .frameGcReset | .frameGcWake | .frameFastwr _ _
  | .frameEewr _ _ | .frameStatus _ => true

/-- `i` is a well-formed instruction. -/
abbrev WellFormed (i : Instr) : Prop := i.wellFormed = true

end Sys2Proof
end

