-- ==== Sys2Proof/Decode.lean ====
section
/-! DEFINITION. The decoder of command words (30_encoding.md R74, total), of frames (R89, R84), and
after them the encoder, the table's numbering of an instruction, and the host's `decodeTableWord`. -/

namespace Sys2Proof

open Sys2Proof.Machine

/-- R74 for a word whose reserved field is zero: the command or reserved opcode of R72, R90. -/
def decodeOpcode (op : BitVec 4) (mode : PowerMode) (value : BitVec 16) : Instr :=
  match op.toNat with
  | 0 => .probe
  | 1 => .gcreset
  | 2 => .gcwake
  | 3 => .getmode
  | 4 => .setmode mode
  | 5 => .rdval
  | 6 => .wru12 value
  | 7 => .rdeeprom
  | 8 => .wreeprom mode value
  | 9 => .reserved9
  | 10 => .reservedA
  | 11 => .reservedB
  | 12 => .reservedC
  | 13 => .reservedD
  | 14 => .reservedE
  | _ => .reservedF

/-- Decoding a command word is total (30_encoding.md R74): the reserved field first, then the opcode.
Fields a command does not use are ignored (R75). -/
def decodeCommand (cw : CmdWord) : Instr :=
  if cwRsv cw = 0#2 then decodeOpcode (cwOp cw) (cwMode cw) (cwValue cw)
  else .reservedRsv (cwOp cw) (cwRsv cw) (cwMode cw) (cwValue cw)

/-- A frame to the general-call address (30_encoding.md R82, R89). -/
def decodeGeneral (f : Frame) : Except DecodeError Instr :=
  match f with
  | [b] =>
    if b = Config.gcResetCode then .ok .frameGcReset
    else if b = Config.gcWakeCode then .ok .frameGcWake
    else .error .unknownGeneralCall
  | _ => .error .unknownGeneralCall

/-- A frame to the device, told apart by its length and its constant bits (30_encoding.md R80, R81, R89). -/
def decodeDevice (f : Frame) : Except DecodeError Instr :=
  match f with
  | [] => .error .probeFrame
  | [b0, b1] =>
    if isFastByte b0 then .ok (.frameFastwr (fastMode b0) (fastValue b0 b1))
    else .error .notFastWrite
  | [b0, b1, b2] =>
    if packEewr (eewrMode b0) (eewrValue b1 b2) = [b0, b1, b2] then
      .ok (.frameEewr (eewrMode b0) (eewrValue b1 b2))
    else .error .notEepromWrite
  | _ => .error .badWriteLength

/-- A frame from the device: exactly five bytes (20_memory.md R57, 30_encoding.md R84, R93). -/
def decodeStatus (f : Frame) : Except DecodeError Instr :=
  match f with
  | [b0, b1, b2, b3, b4] => .ok (.frameStatus ⟨b0, b1, b2, b3, b4⟩)
  | _ => .error .badReadLength

/-- The decoder of all three spaces. -/
def decode (c : Code) : Except DecodeError Instr :=
  match c with
  | .command cw => .ok (decodeCommand cw)
  | .down .general f => decodeGeneral f
  | .down .device f => decodeDevice f
  | .up f => decodeStatus f

/-- What the host presents, as an instruction (30_encoding.md R74, 43_normalized.md R153, R154). -/
def decodeRequest (r : Request) : Instr :=
  match r with
  | .word cw => decodeCommand cw
  | .write v => .write v
  | .read => .read

/-- The code of a well-formed instruction; unused fields are zero (30_encoding.md R72, R94). The two
pseudo-instructions have the words they expand to (R96). -/
def encode (i : Instr) : Code :=
  match i with
  | .probe => .command (packCommand 0x0 0 0 0)
  | .gcreset => .command (packCommand 0x1 0 0 0)
  | .gcwake => .command (packCommand 0x2 0 0 0)
  | .getmode => .command (packCommand 0x3 0 0 0)
  | .setmode m => .command (packCommand 0x4 0 m 0)
  | .rdval => .command (packCommand 0x5 0 0 0)
  | .wru12 v => .command (packCommand 0x6 0 0 v)
  | .rdeeprom => .command (packCommand 0x7 0 0 0)
  | .wreeprom m v => .command (packCommand 0x8 0 m v)
  | .reserved9 => .command (packCommand 0x9 0 0 0)
  | .reservedA => .command (packCommand 0xA 0 0 0)
  | .reservedB => .command (packCommand 0xB 0 0 0)
  | .reservedC => .command (packCommand 0xC 0 0 0)
  | .reservedD => .command (packCommand 0xD 0 0 0)
  | .reservedE => .command (packCommand 0xE 0 0 0)
  | .reservedF => .command (packCommand 0xF 0 0 0)
  | .reservedRsv op rsv m v => .command (packCommand op rsv m v)
  | .write v => .command (packCommand 0x6 0 0 (zext16 (normToU12 v)))
  | .read => .command (packCommand 0x5 0 0 0)
  | .frameGcReset => .down .general [Config.gcResetCode]
  | .frameGcWake => .down .general [Config.gcWakeCode]
  | .frameFastwr m v => .down .device (packFast m v)
  | .frameEewr m v => .down .device (packEewr m v)
  | .frameStatus f => .up (statusBytes f)

/-- The instruction a word stands for: WRITE and READ are other names for the commands they expand to
(30_encoding.md R96). -/
def expand (i : Instr) : Instr :=
  match i with
  | .write v => .wru12 (zext16 (normToU12 v))
  | .read => .rdval
  | _ => i

/-- A frame as the one number spec/opcode_table.json reads it as: byte 0 in the highest bits. -/
def frameNumber (f : Frame) : Nat := f.foldl (fun n b => n * 256 + b.toNat) 0

/-- The table's number of a code word. -/
def codeNumber (c : Code) : Nat :=
  match c with
  | .command cw => cw.toNat
  | .down _ f => frameNumber f
  | .up f => frameNumber f

/-- The width in bits of a code word. -/
def codeWidth (c : Code) : Nat :=
  match c with
  | .command _ => 24
  | .down _ f => 8 * f.length
  | .up f => 8 * f.length

/-- Byte `k` from the low end of a number. -/
def byteOf (w k : Nat) : Byte := BitVec.ofNat 8 (w / 256 ^ k)

/-- The code word of an `nbits`-bit number of the table: 24 bits are a command word, 8 a general call,
16 a fast write, 40 a status frame (log entry 15). -/
def tableCode (nbits w : Nat) : Option Code :=
  match nbits with
  | 24 => some (.command (BitVec.ofNat 24 w))
  | 8 => some (.down .general [byteOf w 0])
  | 16 => some (.down .device [byteOf w 1, byteOf w 0])
  | 40 => some (.up [byteOf w 4, byteOf w 3, byteOf w 2, byteOf w 1, byteOf w 0])
  | _ => none

/-- The instruction the decoder reads from the opcode table's number `w` of `nbits` bits. A 24-bit
number is a command word, so the words of WRITE and READ are WRU12 and RDVAL, and a number that is
also the three bytes of FRAME_EEWR is read as the command word it is (log entry 15). -/
def decodeTableWord (nbits w : Nat) : Option Instr :=
  match tableCode nbits w with
  | none => none
  | some c =>
    match decode c with
    | .ok i => some i
    | .error _ => none

end Sys2Proof
end

