-- ==== Sys2Proof/Machine/Fetch.lean ====
section
/-! DEFINITION. Which instruction the next step runs, and how a word of the opcode table is laid where it
will be the next one. The block fetches no instructions (10_state.md R24): a command word comes from
the command port, a frame from the bus. -/

namespace Sys2Proof.Machine

/-- Whom a transport address names for the block (20_memory.md R43, R50): everyone, its device, or
an address it never uses. -/
def State.target (a : Addr) (s : State) : Option Target :=
  if a = Config.broadcast then some .general
  else if a = s.addr then some .device
  else none

/-- The code word of a frame on the bus. -/
def State.busCode (s : State) : Option Code :=
  match s.bus with
  | .writing a f => (s.target a).map (Code.down · f)
  | .rdRsp f => some (.up f)
  | .quiet | .reading _ | .wrRsp _ => none

/-- The request at the command port, seen only in IDLE (10_state.md R24, 60_exceptions.md R175). -/
def State.portRequest (s : State) : Option Request :=
  if s.bus = .quiet ∧ s.phase = .idle then s.host.head? else none

/-- The instruction that the next step runs, if it runs one. -/
def State.fetch (s : State) : Option Instr :=
  match s.busCode with
  | some c => (decode c).toOption
  | none => s.portRequest.map decodeRequest

/-- A code word laid where the next step fetches it: a command word at the open command port, a frame
to the devices on the bus, a status frame on the bus with the block waiting for it (in W_DAC for a
GETMODE, unless it already waits for one). -/
def State.withCode (c : Code) (s : State) : State :=
  match c with
  | .command cw =>
    { s with resetReq := none, phase := .idle, bus := .quiet, host := .word cw :: s.host }
  | .down .general f => { s with resetReq := none, bus := .writing Config.broadcast f }
  | .down .device f => { s with resetReq := none, bus := .writing s.addr f }
  | .up f =>
    if s.phase = .wDac ∨ s.phase = .wPoll then { s with resetReq := none, bus := .rdRsp f }
    else { s with resetReq := none, phase := .wDac, cur := .getmode, bus := .rdRsp f }

/-- What is due: a raised reset first (70_reset_and_hazards.md R180), then the instruction at hand, then
whatever else (log entry 1). `run` is the meaning of an instruction. -/
def State.dueWith (run : Instr → State → Result) (s : State) : Result :=
  match s.resetReq with
  | some a => .next (s.resetBlock a)
  | none =>
    match s.fetch with
    | some i => run i s
    | none => s.otherStep

/-- One step: the devices' own steps, which can happen at any time (20_memory.md R64), and then what is
due. -/
def State.stepWith (run : Instr → State → Result) (s : State) : Result :=
  s.settleDevices.dueWith run

end Sys2Proof.Machine
end

