-- ==== Sys2Proof/Machine/Step.lean ====
section
/-! DEFINITION. The step of the machine and the host's way of placing an instruction. -/

namespace Sys2Proof.Machine

/-- One step of the machine (10_state.md R24; log entry 1). -/
def step (s : State) : Host.Outcome State Fault Refusal := s.stepWith exec

/-- The instruction of the opcode table's number `w` of `nbits` bits, laid where `step` fetches its
next instruction; a width no row has leaves the state alone. -/
def State.withFetchWord (s : State) (nbits w : Nat) : State :=
  match tableCode nbits w with
  | none => s
  | some c => s.withCode c

end Sys2Proof.Machine
end

