-- ==== Sys2Proof/Safety.lean ====
section
/-! DEFINITION. What counts as a safe run: the invariant of the machine, what the block may put on the
bus, and an environment that keeps its contract. -/

namespace Sys2Proof.Machine

/-- `k` steps of the machine. -/
def run (k : Nat) (s : State) : Result := Sys2Proof.core.run k s

/-- The command port is open and nothing else is due (10_state.md R24). -/
structure State.Ready (s : State) : Prop where
  phase : s.phase = .idle
  bus : s.bus = .quiet
  noReset : s.resetReq = none

/-- The writes the block may issue: a general call, or at ADDR a probe, a fast write or an EEPROM write
(20_memory.md R43, R44, 30_encoding.md R89). -/
def LegalWrite (addr a : Addr) (f : Frame) : Prop :=
  (a = Config.broadcast ∧ (f = [Config.gcResetCode] ∨ f = [Config.gcWakeCode])) ∨
  (a = addr ∧ (f = [] ∨ (∃ m v, f = packFast m v) ∨ ∃ m v, f = packEewr m v))

/-- The commands that can be in progress in a phase (10_state.md R24). -/
def commandFits (p : Phase) (c : Command) : Bool :=
  match p, c with
  | .idle, _ => true
  | .wAck, .probe | .wAck, .gcreset | .wAck, .gcwake | .wAck, .setmode | .wAck, .wru12
  | .wAck, .wreeprom => true
  | .wDac, .getmode | .wDac, .rdval => true
  | .wPoll, .rdeeprom | .wPoll, .wreeprom => true
  | _, _ => false

/-- What the bus can hold in a phase: nothing in IDLE, else the block's request or an answer to it. -/
def Bus.fits (addr : Addr) (p : Phase) (b : Bus) : Prop :=
  match p, b with
  | .idle, .quiet => True
  | .wAck, .writing a f => LegalWrite addr a f
  | .wDac, .reading a | .wPoll, .reading a => a = addr
  | .wAck, .wrRsp _ | .wDac, .wrRsp _ | .wPoll, .wrRsp _ => True
  | .wAck, .rdRsp _ | .wDac, .rdRsp _ | .wPoll, .rdRsp _ => True
  | _, _ => False

/-- The invariant: the parameters are as R5 and 10_state.md R26 constrain them, ADDR (and the argument of
a raised reset) is a member of ADDR_SET, `cur` and the bus belong to the phase, and a command that
still polls has seen fewer not-ready frames than POLL_LIMIT (42_eeprom.md R130 (e)). -/
structure State.Inv (s : State) : Prop where
  params : s.cfg.wf = true
  addr : s.addr ∈ s.cfg.addrSet
  resetArg : ∀ a, s.resetReq = some a → a ∈ s.cfg.addrSet
  latch : commandFits s.phase s.cur = true
  bus : s.bus.fits s.addr s.phase
  polls : s.phase = .wPoll → limitReached s.cfg.pollLimit s.polls = false

/-- An answer on the bus has the shape the phase awaits (20_memory.md R57). -/
def Bus.answersPhase (p : Phase) (b : Bus) : Bool :=
  match b with
  | .quiet | .writing _ _ | .reading _ => true
  | .wrRsp _ => p == .wAck
  | .rdRsp f => (p == .wDac || p == .wPoll) && f.length == Config.statusLen

/-- The environment keeps the contract of 20_memory.md R57: it is the unconstrained one, which answers
each request in its shape, or reference devices; and an answer already on the bus has the right
shape. (Answers listed from outside can break the contract, so they are not among these.) -/
def State.contractKept (s : State) : Bool :=
  (match s.env with
    | .answers [] => true
    | .answers (_ :: _) => false
    | .devices _ => true) && s.bus.answersPhase s.phase

/-- A safe state: its next step is no fault. -/
def State.safe (s : State) : Prop :=
  match step s with
  | .next _ | .refused _ => True
  | .fault _ => False

end Sys2Proof.Machine
end

