-- ==== Sys2Proof/Certificates/Slice0/Obligations.lean ====
section
/-! DEFINITION. The statements for the provers. Where a statement gives a next state as a record update of
`s`, every field it does not name is unchanged: that is the instruction's frame. -/

open Sys2Proof Sys2Proof.Machine

/-! ### Encoding -/

/-- Decoding the code of a well-formed instruction gives it back; WRITE and READ have the words of the
commands they expand to (30_encoding.md R72, R80 to R84, R96). -/
def Obligations.DecodeOfEncodeGivesTheInstruction : Prop :=
  ∀ i : Instr, WellFormed i → decode (encode i) = .ok (expand i)

/-- The table's number of a well-formed instruction decodes to it, and, laid where the step fetches it,
is what the step runs, after the devices' own steps. FRAME_EEWR is left out: its three bytes are also a command
word (log entry 15). -/
def Obligations.PlacedTableWordIsWhatTheStepRuns : Prop :=
  ∀ (i : Instr) (s : State), WellFormed i → (∀ m v, i ≠ .frameEewr m v) →
    s.addr ≠ Config.broadcast →
    decodeTableWord (codeWidth (encode i)) (codeNumber (encode i)) = some (expand i) ∧
    step (s.withFetchWord (codeWidth (encode i)) (codeNumber (encode i))) =
      exec (expand i) (s.withFetchWord (codeWidth (encode i)) (codeNumber (encode i))).settleDevices

/-- 30_encoding.md R72: a word selects the row of a command exactly when `w & mask = match`; the operands
are the fields of R73; the opcodes 0x9 to 0xF are reserved. -/
def Obligations.CommandRowsAreSelectedByMaskAndMatch : Prop :=
  ∀ cw : CmdWord,
    (cw &&& 0xFC0000 = 0x000000 ↔ decodeCommand cw = .probe) ∧
    (cw &&& 0xFC0000 = 0x100000 ↔ decodeCommand cw = .gcreset) ∧
    (cw &&& 0xFC0000 = 0x200000 ↔ decodeCommand cw = .gcwake) ∧
    (cw &&& 0xFC0000 = 0x300000 ↔ decodeCommand cw = .getmode) ∧
    (cw &&& 0xFC0000 = 0x400000 ↔ decodeCommand cw = .setmode (cw.extractLsb' 16 2)) ∧
    (cw &&& 0xFC0000 = 0x500000 ↔ decodeCommand cw = .rdval) ∧
    (cw &&& 0xFC0000 = 0x600000 ↔ decodeCommand cw = .wru12 (cw.extractLsb' 0 16)) ∧
    (cw &&& 0xFC0000 = 0x700000 ↔ decodeCommand cw = .rdeeprom) ∧
    (cw &&& 0xFC0000 = 0x800000 ↔
      decodeCommand cw = .wreeprom (cw.extractLsb' 16 2) (cw.extractLsb' 0 16)) ∧
    (9 ≤ cwOp cw → cwRsv cw = 0#2 → decodeCommand cw ∈
      [.reserved9, .reservedA, .reservedB, .reservedC, .reservedD, .reservedE, .reservedF])

/-- 30_encoding.md R75: fields a command does not use are ignored, whatever they hold. -/
def Obligations.UnusedFieldsAreIgnored : Prop :=
  ∀ cw cw' : CmdWord, cwRsv cw = 0#2 → cwRsv cw' = 0#2 → cwOp cw = cwOp cw' → cwOp cw ≤ 8 →
    (cwOp cw ≠ 4 → cwOp cw ≠ 6 → cwOp cw ≠ 8 → decodeCommand cw = decodeCommand cw') ∧
    (cwOp cw = 4 → cwMode cw = cwMode cw' → decodeCommand cw = decodeCommand cw') ∧
    (cwOp cw = 6 → cwValue cw = cwValue cw' → decodeCommand cw = decodeCommand cw')

/-- 30_encoding.md R80: the fast-write frame is `[(mode<<4)|(val>>8), val&0xFF]`, its two top bits zero. -/
def Obligations.FastWriteFrameIsTheSourceFormula : Prop :=
  ∀ (m : PowerMode) (v : DacValue),
    packFast m v =
      [(m.setWidth 8 <<< 4) ||| (v >>> 8).setWidth 8, (v &&& 0xFF).setWidth 8] ∧
    (∀ i : Nat, i < 2 → ∀ b ∈ (packFast m v).head?,
      b.getLsbD (6 + i) = false ∧ b.getLsbD (4 + i) = m.getLsbD i) ∧
    (∀ i : Nat, i < 4 → ∀ b ∈ (packFast m v).head?, b.getLsbD i = v.getLsbD (8 + i)) ∧
    (∀ i : Nat, i < 8 → ∀ b ∈ (packFast m v)[1]?, b.getLsbD i = v.getLsbD i)

/-- 30_encoding.md R81: the EEPROM-write frame is `[0x60|(mode<<1), val>>4, (val<<4)&0xF0]`. -/
def Obligations.EepromWriteFrameIsTheSourceFormula : Prop :=
  ∀ (m : PowerMode) (v : DacValue),
    packEewr m v =
      [0x60 ||| (m.setWidth 8 <<< 1), (v >>> 4).setWidth 8, (v.setWidth 8 <<< 4) &&& 0xF0] ∧
    (∀ b ∈ (packEewr m v).head?, b.extractLsb' 5 3 = 0b011 ∧ b.extractLsb' 3 2 = 0 ∧
      b.extractLsb' 1 2 = m ∧ b.getLsbD 0 = false) ∧
    (∀ i : Nat, i < 8 → ∀ b ∈ (packEewr m v)[1]?, b.getLsbD i = v.getLsbD (4 + i)) ∧
    (∀ i : Nat, i < 4 → ∀ b ∈ (packEewr m v)[2]?,
      b.getLsbD (4 + i) = v.getLsbD i ∧ b.getLsbD i = false)

/-- 30_encoding.md R85: `m = (f[0] >> 1) & 0x3`, `v = (f[1] << 4) | (f[2] >> 4)`. -/
def Obligations.DacFieldsAreTheSourceFormula : Prop :=
  ∀ f : StatusFrame,
    unpackDac f = ((f.b0 >>> 1 &&& 0x3).setWidth 2,
      (f.b1.setWidth 12 <<< 4) ||| (f.b2 >>> 4).setWidth 12) ∧
    (unpackDac f).1 = f.b0.extractLsb' 1 2 ∧ (unpackDac f).2 = f.b1 ++ f.b2.extractLsb' 4 4

/-- 30_encoding.md R86: RDY is bit 7 of byte 0; `m = (f[3] >> 5) & 0x3`, `v = ((f[3] & 0x0F) << 8) | f[4]`. -/
def Obligations.EepromFieldsAreTheSourceFormula : Prop :=
  ∀ f : StatusFrame,
    (rdy f = true ↔ (f.b0 &&& 0x80) >>> 7 = 1) ∧ rdy f = f.b0.getLsbD 7 ∧
    unpackEeprom f = ((f.b3 >>> 5 &&& 0x3).setWidth 2,
      ((f.b3 &&& 0x0F).setWidth 12 <<< 8) ||| f.b4.setWidth 12) ∧
    (unpackEeprom f).1 = f.b3.extractLsb' 5 2 ∧ (unpackEeprom f).2 = f.b3.extractLsb' 0 4 ++ f.b4

/-- 30_encoding.md R88: bits no field names are zero on transmit and ignored on receive. -/
def Obligations.UnnamedBitsAreZeroOutAndIgnoredIn : Prop :=
  (∀ m v, ∀ b ∈ (packFast m v).head?, b.extractLsb' 6 2 = 0) ∧
  (∀ m v, ∀ b ∈ (packEewr m v).head?,
    b.extractLsb' 5 3 = 0b011 ∧ b.extractLsb' 3 2 = 0 ∧ b.extractLsb' 0 1 = 0) ∧
  (∀ m v, ∀ b ∈ (packEewr m v)[2]?, b.extractLsb' 0 4 = 0) ∧
  (∀ (f g : StatusFrame) (s : State),
    f.b0 &&& 0x86 = g.b0 &&& 0x86 → f.b1 = g.b1 → f.b2 &&& 0xF0 = g.b2 &&& 0xF0 →
    f.b3 &&& 0x6F = g.b3 &&& 0x6F → f.b4 = g.b4 →
    exec (.frameStatus f) s = exec (.frameStatus g) s)

/-- 30_encoding.md R76, R77: where the fields of the response word stand; two responses with the same word
are the same. -/
def Obligations.ResponseWordHoldsTheFieldsOfTheRecord : Prop :=
  (∀ r : Rsp,
    (packResponse r).extractLsb' 20 4 = statusCode r.status ∧
    (packResponse r).getLsbD 19 = r.ack ∧ (packResponse r).getLsbD 18 = false ∧
    (packResponse r).extractLsb' 16 2 = r.mode ∧ (packResponse r).extractLsb' 12 4 = 0 ∧
    (packResponse r).extractLsb' 0 12 = r.value) ∧
  (∀ r r' : Rsp, packResponse r = packResponse r' → r = r') ∧
  statusCode .ok = 0 ∧ statusCode .illegal = 1 ∧ statusCode .timeout = 2

/-- A few words written out from the spec's encodings decode to what they stand for (a sanity statement). -/
def Obligations.WordsOfTheSpecDecodeToTheirInstructions : Prop :=
  decodeCommand 0x420000 = .setmode 2 ∧ decodeCommand 0x631ABC = .wru12 0x1ABC ∧
  decodeCommand 0x81F00F = .wreeprom 1 0xF00F ∧ decodeCommand 0xA00000 = .reservedA ∧
  decodeCommand 0x640ABC = .reservedRsv 6 1 0 0x0ABC ∧
  decode (.down .general [0x09]) = .ok .frameGcWake ∧
  decode (.down .device [0x1A, 0xBC]) = .ok (.frameFastwr 1 0xABC) ∧
  decode (.down .device [0x66, 0xAB, 0xC0]) = .ok (.frameEewr 3 0xABC)

/-! ### The normalized front end -/

/-- 43_normalized.md R151: clamp, multiply by 4095, truncate. -/
def Obligations.NormToU12ClampsAndTruncates : Prop :=
  (∀ v : NormNum, v < 0 → normToU12 v = 0) ∧
  (∀ v : NormNum, 1 < v → normToU12 v = 4095) ∧
  (∀ v : NormNum, 0 ≤ v → v ≤ 1 → ((normToU12 v).toNat : Int) = ⌊v * 4095⌋) ∧
  normToU12 (1 / 2) = 2047 ∧
  (∀ v : NormNum, normToU12 v = 4095 ↔ 1 ≤ v) ∧
  (∀ k : Nat, k ≤ 4095 → (normToU12 ((k : NormNum) / 4095)).toNat = k)

/-- 43_normalized.md R155 (b), (c), and R152's range: the conversions are inverse on the 12-bit values, and
norm_to_u12 is monotone. -/
def Obligations.NormalizedConversionsRoundTripAndAreMonotone : Prop :=
  (∀ x : DacValue, normToU12 (u12ToNorm x) = x) ∧
  (∀ x : DacValue, 0 ≤ u12ToNorm x ∧ u12ToNorm x ≤ 1 ∧ u12ToNorm x * 4095 = (x.toNat : NormNum)) ∧
  (∀ v w : NormNum, v ≤ w → (normToU12 v).toNat ≤ (normToU12 w).toNat)

/-! ### Acceptance of commands -/

/-- PROBE, GCRESET and GCWAKE in IDLE send their one frame and wait for its ack; no cache register is read
or written, and the general calls go to address 0x00 whatever ADDR is. -/
def Obligations.PresenceAndGeneralCallsSendTheirFrame : Prop :=
  ∀ s : State, s.phase = .idle →
    exec .probe s = .next { s with
      host := s.host.tail, cur := .probe, viaRead := false, phase := .wAck
      bus := .writing s.addr [], outputs := .busWrite s.addr [] :: s.outputs } ∧
    exec .gcreset s = .next { s with
      host := s.host.tail, cur := .gcreset, viaRead := false, phase := .wAck
      bus := .writing 0x00 [0x06], outputs := .busWrite 0x00 [0x06] :: s.outputs } ∧
    exec .gcwake s = .next { s with
      host := s.host.tail, cur := .gcwake, viaRead := false, phase := .wAck
      bus := .writing 0x00 [0x09], outputs := .busWrite 0x00 [0x09] :: s.outputs }

/-- GETMODE, RDVAL and READ in IDLE issue one read of five bytes at ADDR and wait in W_DAC. -/
def Obligations.DacReadsIssueOneStatusRead : Prop :=
  ∀ s : State, s.phase = .idle →
    exec .getmode s = .next { s with
      host := s.host.tail, cur := .getmode, viaRead := false, phase := .wDac
      bus := .reading s.addr, outputs := .busRead s.addr 5 :: s.outputs } ∧
    exec .rdval s = .next { s with
      host := s.host.tail, cur := .rdval, viaRead := false, phase := .wDac
      bus := .reading s.addr, outputs := .busRead s.addr 5 :: s.outputs } ∧
    exec .read s = .next { s with
      host := s.host.tail, cur := .rdval, viaRead := true, phase := .wDac
      bus := .reading s.addr, outputs := .busRead s.addr 5 :: s.outputs }

/-- SETMODE in IDLE writes MODE before the transaction and sends the fast write with the cached VALUE, for
a VALUE that holds a value. -/
def Obligations.SetmodeSendsTheCachedValue : Prop :=
  ∀ (s : State) (m : PowerMode) (v : DacValue), s.phase = .idle → s.value = some v →
    exec (.setmode m) s = .next { s with
      host := s.host.tail, cur := .setmode, viaRead := false, mode := some m, phase := .wAck
      bus := .writing s.addr (packFast m v)
      outputs := .busWrite s.addr (packFast m v) :: s.outputs }

/-- WRU12 in IDLE masks its operand to 12 bits, writes VALUE before the transaction and sends the fast write
with the cached MODE, for a MODE that holds a value. WRITE v does what WRU12 of norm_to_u12(v) does. -/
def Obligations.RawAndNormalizedWritesSendTheCachedMode : Prop :=
  (∀ (s : State) (m : PowerMode) (v : BitVec 16), s.phase = .idle → s.mode = some m →
    exec (.wru12 v) s = .next { s with
      host := s.host.tail, cur := .wru12, viaRead := false, value := some (v.setWidth 12)
      phase := .wAck, bus := .writing s.addr (packFast m (v.setWidth 12))
      outputs := .busWrite s.addr (packFast m (v.setWidth 12)) :: s.outputs }) ∧
  (∀ (s : State) (m : PowerMode) (v : NormNum), s.phase = .idle → s.mode = some m →
    exec (.write v) s = .next { s with
      host := s.host.tail, cur := .wru12, viaRead := false, value := some (normToU12 v)
      phase := .wAck, bus := .writing s.addr (packFast m (normToU12 v))
      outputs := .busWrite s.addr (packFast m (normToU12 v)) :: s.outputs }) ∧
  (∀ (s : State) (v : NormNum), exec (.write v) s = exec (.wru12 ((normToU12 v).setWidth 16)) s)

/-- The model's choice (log entry 3, the draw reading of 93_implementation_defined.md U1): a cache register
that holds no value turns out to hold a free value, which the frame carries and the register keeps. -/
def Obligations.UnwrittenCacheIsAFreeValueThatIsKept : Prop :=
  (∀ (s : State) (m : PowerMode), s.phase = .idle → s.value = none →
    exec (.setmode m) s = .next { s with
      host := s.host.tail, cur := .setmode, viaRead := false, mode := some m
      value := some (Config.freeValue s.draws), draws := s.draws + 1, phase := .wAck
      bus := .writing s.addr (packFast m (Config.freeValue s.draws))
      outputs := .busWrite s.addr (packFast m (Config.freeValue s.draws)) :: s.outputs }) ∧
  (∀ (s : State) (v : BitVec 16), s.phase = .idle → s.mode = none →
    exec (.wru12 v) s = .next { s with
      host := s.host.tail, cur := .wru12, viaRead := false, value := some (v.setWidth 12)
      mode := some (Config.freeMode s.draws), draws := s.draws + 1, phase := .wAck
      bus := .writing s.addr (packFast (Config.freeMode s.draws) (v.setWidth 12))
      outputs :=
        .busWrite s.addr (packFast (Config.freeMode s.draws) (v.setWidth 12)) :: s.outputs })

/-- RDEEPROM and WREEPROM in IDLE zero `polls`, latch their operands (the value masked to 12 bits) and issue
the first status read, whatever the device was doing before. -/
def Obligations.EepromCommandsStartPolling : Prop :=
  ∀ s : State, s.phase = .idle →
    exec .rdeeprom s = .next { s with
      host := s.host.tail, cur := .rdeeprom, viaRead := false, polls := 0, phase := .wPoll
      bus := .reading s.addr, outputs := .busRead s.addr 5 :: s.outputs } ∧
    ∀ (m : PowerMode) (v : BitVec 16),
      exec (.wreeprom m v) s = .next { s with
        host := s.host.tail, cur := .wreeprom, viaRead := false, lm := m, lv := v.setWidth 12
        polls := 0, phase := .wPoll, bus := .reading s.addr
        outputs := .busRead s.addr 5 :: s.outputs }

/-- 60_exceptions.md R160: an illegal word is answered with ILLEGAL in the same step and has no other effect. -/
def Obligations.IllegalWordsAreAnsweredAndHaveNoEffect : Prop :=
  (∀ (cw : CmdWord) (s : State), (cwRsv cw ≠ 0#2 ∨ 9 ≤ cwOp cw) → s.phase = .idle →
    exec (decodeCommand cw) s = .next { s with
      host := s.host.tail
      outputs := .done { status := .illegal, ack := false, mode := 0, value := 0 } none :: s.outputs }) ∧
  packResponse { status := .illegal, ack := false, mode := 0, value := 0 } = 0x100000

/-- Each reserved row completes with ILLEGAL in IDLE (30_encoding.md R90, R91). -/
def Obligations.EveryReservedRowCompletesWithIllegal : Prop :=
  ∀ s : State, s.phase = .idle →
    (∀ i ∈ [Instr.reserved9, .reservedA, .reservedB, .reservedC, .reservedD, .reservedE, .reservedF],
      exec i s = .next { s with
        host := s.host.tail, outputs := .done { status := .illegal } none :: s.outputs }) ∧
    ∀ op rsv m v, exec (.reservedRsv op rsv m v) s = .next { s with
      host := s.host.tail, outputs := .done { status := .illegal } none :: s.outputs }

/-! ### The answers of the environment -/

/-- In W_ACK an ack ends the command with OK and the transport's bit, and nothing else: no retry, no undo
of a cache update (10_state.md R24, 60_exceptions.md R164). The devices take their own steps before it. -/
def Obligations.AckEndsTheCommand : Prop :=
  ∀ (s : State) (a : Bool), s.resetReq = none → s.phase = .wAck → s.bus = .wrRsp a →
    s.cur ∈ [Command.probe, .gcreset, .gcwake, .setmode, .wru12, .wreeprom] →
    step s = .next { s.settleDevices with
      phase := .idle, bus := .quiet
      outputs := .done { status := .ok, ack := a, mode := 0, value := 0 } none :: s.outputs }

/-- In W_DAC a status frame, ready or not, loads both cache registers; GETMODE returns the mode, RDVAL the
value, and READ the value divided by 4095 as well. -/
def Obligations.StatusFrameLoadsTheCache : Prop :=
  ∀ (s : State) (f : StatusFrame), s.phase = .wDac →
    (s.cur = .getmode → exec (.frameStatus f) s = .next { s with
      mode := some (unpackDac f).1, value := some (unpackDac f).2, phase := .idle, bus := .quiet
      outputs := .done { status := .ok, ack := false, mode := (unpackDac f).1, value := 0 } none
        :: s.outputs }) ∧
    (s.cur = .rdval → s.viaRead = false → exec (.frameStatus f) s = .next { s with
      mode := some (unpackDac f).1, value := some (unpackDac f).2, phase := .idle, bus := .quiet
      outputs := .done { status := .ok, ack := false, mode := 0, value := (unpackDac f).2 } none
        :: s.outputs }) ∧
    (s.cur = .rdval → s.viaRead = true → exec (.frameStatus f) s = .next { s with
      mode := some (unpackDac f).1, value := some (unpackDac f).2, phase := .idle, bus := .quiet
      outputs := .done { status := .ok, ack := false, mode := 0, value := (unpackDac f).2 }
        (some (((unpackDac f).2.toNat : NormNum) / 4095)) :: s.outputs })

/-- In W_POLL: a not-ready frame is counted and followed by the next read, or by TIMEOUT at POLL_LIMIT; a
ready frame is RDEEPROM's result, and for WREEPROM is followed by its one write (42_eeprom.md R130 to R132). -/
def Obligations.PollingFollowsTheReadyBit : Prop :=
  ∀ (s : State) (f : StatusFrame), s.phase = .wPoll →
    (f.b0.getLsbD 7 = false → (∀ n, s.cfg.pollLimit = some n → s.polls + 1 < n) →
      exec (.frameStatus f) s = .next { s with
        polls := s.polls + 1, bus := .reading s.addr
        outputs := .busRead s.addr 5 :: s.outputs }) ∧
    (∀ n, f.b0.getLsbD 7 = false → s.cfg.pollLimit = some n → n ≤ s.polls + 1 →
      exec (.frameStatus f) s = .next { s with
        polls := s.polls + 1, phase := .idle, bus := .quiet
        outputs := .done { status := .timeout, ack := false, mode := 0, value := 0 } none
          :: s.outputs }) ∧
    (f.b0.getLsbD 7 = true → s.cur = .rdeeprom →
      exec (.frameStatus f) s = .next { s with
        phase := .idle, bus := .quiet
        outputs := .done { status := .ok, ack := false, mode := (unpackEeprom f).1,
                           value := (unpackEeprom f).2 } none :: s.outputs }) ∧
    (f.b0.getLsbD 7 = true → s.cur = .wreeprom → s.cfg.wreepromUpdatesCache = false →
      exec (.frameStatus f) s = .next { s with
        phase := .wAck, bus := .writing s.addr (packEewr s.lm s.lv)
        outputs := .busWrite s.addr (packEewr s.lm s.lv) :: s.outputs }) ∧
    (f.b0.getLsbD 7 = true → s.cur = .wreeprom → s.cfg.wreepromUpdatesCache = true →
      exec (.frameStatus f) s = .next { s with
        mode := some s.lm, value := some s.lv, phase := .wAck
        bus := .writing s.addr (packEewr s.lm s.lv)
        outputs := .busWrite s.addr (packEewr s.lm s.lv) :: s.outputs })

/-- The general-call frames reach every reference device on the bus and change nothing of the block
(20_memory.md R65; 40_presence_and_general_call.md R104). That the registers of an absent device change too is
the literal reading of R65, whose effect does not depend on `present` (log entry 9, DEDUCED). -/
def Obligations.GeneralCallsReachEveryDevice : Prop :=
  ∀ (s : State) (ds : List Device), s.env = .devices ds →
    exec .frameGcWake s = .next { s with
      bus := .wrRsp (ds.any (·.present))
      env := .devices (ds.map fun d => { d with dmode := 0 }) } ∧
    exec .frameGcReset s = .next { s with
      bus := .wrRsp (ds.any (·.present))
      env := .devices (ds.map fun d => { d with dmode := d.emode, dval := d.eval }) }

/-- The two data frames at the reference devices on the bus: the device of ADDR takes the fields the frame was
made from, unless it is busy and ignores writes; every other device is unchanged; nothing of the block changes
(20_memory.md R61, R62, R66). ADDR is a device's address, never the general call's (10_state.md R26). That an
absent device of ADDR stores the frame too is the literal reading of R61 and R62, whose effect does not depend
on `present` (log entry 9, DEDUCED), and that every device of ADDR stores it is log entry 10. -/
def Obligations.DataFramesAreStoredByTheDeviceOfTheAddress : Prop :=
  ∀ (s : State) (ds : List Device) (m : PowerMode) (v : DacValue), s.env = .devices ds →
    s.addr ≠ Config.broadcast →
    exec (.frameFastwr m v) s = .next { s with
      bus := .wrRsp (ds.any fun d => d.devAddr == s.addr && d.present)
      env := .devices (ds.map fun d =>
        if d.devAddr = s.addr ∧ ¬ (d.busy ∧ s.cfg.devIgnoresWritesWhenBusy) then
          { d with dmode := m, dval := v }
        else d) } ∧
    exec (.frameEewr m v) s = .next { s with
      bus := .wrRsp (ds.any fun d => d.devAddr == s.addr && d.present)
      env := .devices (ds.map fun d =>
        if d.devAddr = s.addr ∧ ¬ (d.busy ∧ s.cfg.devIgnoresWritesWhenBusy) then
          { d with
            emode := m, eval := v, busy := true
            dmode := if s.cfg.devEewrUpdatesDacreg then m else d.dmode
            dval := if s.cfg.devEewrUpdatesDacreg then v else d.dval }
        else d) }

/-- The model's form of an unconstrained environment (log entry 7): a frame is answered with the next answer
listed from outside, of whatever shape, else with a free ack; nothing else changes. -/
def Obligations.OtherEnvironmentsOnlyAnswerTheFrame : Prop :=
  ∀ (s : State) (m : PowerMode) (v : DacValue),
    ∀ i ∈ [Instr.frameGcReset, .frameGcWake, .frameFastwr m v, .frameEewr m v],
      (s.env = .answers [] → exec i s = .next { s with
        bus := .wrRsp (Config.freeAck s.draws), draws := s.draws + 1 }) ∧
      (∀ a as, s.env = .answers (.ack a :: as) → exec i s = .next { s with
        bus := .wrRsp a, env := .answers as }) ∧
      (∀ f as, s.env = .answers (.bytes f :: as) → exec i s = .next { s with
        bus := .rdRsp f, env := .answers as })

/-- A read from ADDR is answered with the status frame of the first present device at it, and with five bytes
of no stated value when there is none or when nothing constrains the environment; it changes no device and
nothing of the block, but uses up the bits chosen for it (20_memory.md R42, R63, R66; log entries 7 to 10). The
devices take their own steps before it. -/
def Obligations.ReadsAreAnsweredByTheDeviceOfTheAddress : Prop :=
  ∀ s u : State, s.resetReq = none → s.bus = .reading s.addr → u = s.settleDevices →
    (∀ ds d, u.env = .devices ds → ds.find? (fun d => d.devAddr == s.addr && d.present) = some d →
      step s = .next { u with
        bus := .rdRsp (statusBytes (d.status (d.nextBits u.draws)))
        env := .devices (ds.map fun d =>
          if d.devAddr = s.addr ∧ d.present then { d with xbits := d.xbits.tail } else d)
        draws := u.draws + 1 }) ∧
    (∀ ds, u.env = .devices ds → ds.find? (fun d => d.devAddr == s.addr && d.present) = none →
      ∃ f : StatusFrame, step s = .next { u with bus := .rdRsp (statusBytes f), draws := u.draws + 1 }) ∧
    (u.env = .answers [] →
      ∃ f : StatusFrame, step s = .next { u with bus := .rdRsp (statusBytes f), draws := u.draws + 1 })

/-- 20_memory.md R67: the two round trips through the reference device, for any setting of the bits no
decoder reads. The device may be absent: that it stores the two frames then is the literal reading of R61 and
R62, whose effect does not depend on `present` (log entry 9, DEDUCED). -/
def Obligations.ReferenceDeviceReturnsWhatItWasSent : Prop :=
  ∀ (p : Params) (d : Device) (m : PowerMode) (x : DacValue) (xb : StatusFrame),
    d.busy = false → d.devAddr ≠ Config.broadcast →
    unpackDac ((d.takeWrite p d.devAddr (packFast m x)).status xb) = (m, x) ∧
    unpackEeprom (({ d.takeWrite p d.devAddr (packEewr m x) with busy := false }).status xb) = (m, x)

/-- 20_memory.md R65 at one device: wake-up, reset, any other byte; and the ack. That the two calls change an
absent device too is the literal reading of R65, whose effect does not depend on `present` (log entry 9,
DEDUCED). -/
def Obligations.DeviceTakesGeneralCalls : Prop :=
  ∀ (p : Params) (d : Device) (b : Byte),
    d.takeWrite p 0x00 [0x09] = { d with dmode := 0 } ∧
    d.takeWrite p 0x00 [0x06] = { d with dmode := d.emode, dval := d.eval } ∧
    (b ≠ 0x09 → b ≠ 0x06 → d.takeWrite p 0x00 [b] = d) ∧
    (d.acks 0x00 = true ↔ d.present = true)

/-- The fields of the reference device's status frame, for any setting of the bits no decoder reads
(20_memory.md R63). It is about the frame alone: an absent device returns none (log entry 9). -/
def Obligations.DeviceStatusFrameShowsItsRegisters : Prop :=
  ∀ (d : Device) (x : StatusFrame),
    (rdy (d.status x) = true ↔ d.busy = false) ∧
    unpackDac (d.status x) = (d.dmode, d.dval) ∧ unpackEeprom (d.status x) = (d.emode, d.eval)

/-! ### The step and the protocol -/

/-- A step runs the instruction that its input decodes to, after the devices' own steps: a command word or a
pseudo-instruction at the open command port, a frame to the devices or a status frame on the bus. -/
def Obligations.StepRunsTheDecodedInstruction : Prop :=
  (∀ (s : State) (cw : CmdWord) (rest : List Request), s.Ready → s.host = .word cw :: rest →
    WellFormed (decodeCommand cw) ∧ step s = exec (decodeCommand cw) s.settleDevices) ∧
  (∀ (s : State) (v : NormNum) (rest : List Request), s.Ready → s.host = .write v :: rest →
    step s = exec (.write v) s.settleDevices) ∧
  (∀ (s : State) (rest : List Request), s.Ready → s.host = .read :: rest →
    step s = exec .read s.settleDevices) ∧
  (∀ (s : State) (f : Frame) (i : Instr), s.resetReq = none → s.bus = .writing Config.broadcast f →
    decode (.down .general f) = .ok i → WellFormed i ∧ step s = exec i s.settleDevices) ∧
  (∀ (s : State) (f : Frame) (i : Instr), s.resetReq = none → s.addr ≠ Config.broadcast →
    s.bus = .writing s.addr f → decode (.down .device f) = .ok i →
    WellFormed i ∧ step s = exec i s.settleDevices) ∧
  (∀ (s : State) (f : Frame) (i : Instr), s.resetReq = none → s.bus = .rdRsp f →
    decode (.up f) = .ok i → WellFormed i ∧ step s = exec i s.settleDevices)

/-- 60_exceptions.md R175: inputs outside the protocol are refused; a word the host holds on the port waits,
and is taken when the port is open again. -/
def Obligations.InputsOutsideTheProtocolAreRefused : Prop :=
  (∀ (s : State) (r : Request), s.phase ≠ .idle →
    exec (decodeRequest r) s = .refused .portClosed) ∧
  (∀ s t : State, s.phase ≠ .idle → step s = .next t → t.host = s.host) ∧
  (∀ (s : State) (a : Bool), s.resetReq = none → s.bus = .wrRsp a → s.phase ≠ .wAck →
    step s = .refused .unsolicitedAck) ∧
  (∀ (s : State) (f : Frame), s.resetReq = none → s.bus = .rdRsp f → s.phase ≠ .wDac →
    s.phase ≠ .wPoll → step s = .refused .unsolicitedFrame) ∧
  (∀ (s : State) (f : Frame), s.resetReq = none → s.bus = .rdRsp f → s.phase = .wDac ∨ s.phase = .wPoll →
    f.length ≠ 5 → step s = .refused .badFrameLength) ∧
  (∀ (s : State) (r : Request) (rest : List Request), s.Ready → s.host = r :: rest →
    step s = exec (decodeRequest r) s.settleDevices)

/-- With the port open and nothing presented, the machine waits, unchanged but for the devices' own steps (that
it steps at all is the model's choice, log entry 2). -/
def Obligations.AnOpenPortWaitsUnchanged : Prop :=
  ∀ s : State, s.Ready → s.host = [] → step s = .next s.settleDevices

/-! ### Reset -/

/-- What construction leaves (10_state.md R32, 70_reset_and_hazards.md R181, R182): IDLE, no polls, ADDR the
argument, nothing on the bus, and a cache that holds CACHE_RESET, or no value when that is none. -/
def Obligations.ConstructionLeavesTheResetValues : Prop :=
  ∀ (p : Params) (a : Addr),
    (State.construct p a).phase = .idle ∧ (State.construct p a).polls = 0 ∧
    (State.construct p a).addr = a ∧ (State.construct p a).bus = .quiet ∧
    (State.construct p a).outputs = [] ∧
    (p.cacheReset = none → (State.construct p a).mode = none ∧ (State.construct p a).value = none) ∧
    (∀ m v, p.cacheReset = some (m, v) →
      (State.construct p a).mode = some m ∧ (State.construct p a).value = some v) ∧
    State.reset.mode = none ∧ State.reset.value = none ∧ State.reset.cfg.pollLimit = none

/-- The reset event, at any time (70_reset_and_hazards.md R180 to R183): the block is as constructed with the
argument, a command in progress gets no Done, no transaction is issued, and with nothing outstanding the
devices keep what they hold, but for their own steps. That an outstanding transaction's answer is dropped is
log entry 12. -/
def Obligations.ResetEventRebuildsTheBlockAlone : Prop :=
  ∀ (s : State) (a : Addr), s.resetReq = some a →
    ∃ t, step s = .next t ∧ t.cfg = s.cfg ∧ t.addr = a ∧ t.phase = .idle ∧ t.polls = 0 ∧
      t.mode = s.cfg.cacheReset.map Prod.fst ∧ t.value = s.cfg.cacheReset.map Prod.snd ∧
      t.bus = .quiet ∧ t.resetReq = none ∧ t.host = s.host ∧ t.outputs = s.outputs ∧
      (s.bus = .quiet → t.env = s.settleDevices.env ∧ t.draws = s.settleDevices.draws)

/-! ### The invariant -/

/-- The machine right after reset meets the invariant. -/
def Obligations.InvariantHoldsAtReset : Prop := State.reset.Inv

/-- Every step keeps the invariant. -/
def Obligations.EveryStepKeepsTheInvariant : Prop :=
  ∀ s t : State, s.Inv → step s = .next t → t.Inv

/-- No state of the invariant faults: the latch `cur` always belongs to the phase (log entry 14). That an
unwritten cache is no fault either is the model's choice (log entry 3). -/
def Obligations.NoStepFaultsUnderTheInvariant : Prop := ∀ s : State, s.Inv → s.safe

/-- Under the invariant and an environment that keeps its contract (20_memory.md R57), a run of any length
neither faults nor is refused, and keeps both. Two things in it are the model's choice and no rule's: an
unwritten cache is no fault but a free value (log entry 3, where the first treatment of
93_implementation_defined.md U1 and 60_exceptions.md R165 allow a fault), and an idle port with nothing
presented still steps (log entry 2). -/
def Obligations.ContractKeepingRunsNeverStop : Prop :=
  ∀ (k : Nat) (s : State), s.Inv → s.contractKept = true →
    ∃ t, run k s = .next t ∧ t.Inv ∧ t.contractKept = true

/-! ### Rules over every step -/

/-- Every step emits at most one output; a write it emits is one of the frames of 30_encoding.md R89 at the
address of 20_memory.md R43, and a read it emits is of five bytes at ADDR. -/
def Obligations.TheBlockTransmitsNoOtherFrame : Prop :=
  ∀ s t : State, step s = .next t → t.outputs = s.outputs ∨
    ∃ o, t.outputs = o :: s.outputs ∧
      (∀ a f, o = .busWrite a f →
        (a = 0x00 ∧ (f = [0x06] ∨ f = [0x09])) ∨
        (a = s.addr ∧ (f = [] ∨ (∃ m v, f = packFast m v) ∨ ∃ m v, f = packEewr m v))) ∧
      (∀ a n, o = .busRead a n → a = s.addr ∧ n = 5)

/-- An EEPROM-write frame is emitted only by the step that takes a status frame with RDY = 1 for a WREEPROM,
and it is the frame of that command's operands. -/
def Obligations.EepromIsWrittenOnlyAfterAReadyFrame : Prop :=
  ∀ (s t : State) (a : Addr) (b0 b1 b2 : Byte), step s = .next t →
    t.outputs = .busWrite a [b0, b1, b2] :: s.outputs →
    s.phase = .wPoll ∧ s.cur = .wreeprom ∧ a = s.addr ∧ [b0, b1, b2] = packEewr s.lm s.lv ∧
      ∃ f : StatusFrame, s.bus = .rdRsp (statusBytes f) ∧ f.b0.getLsbD 7 = true

/-- No step but the reset event changes ADDR, and no step at all changes the parameters. -/
def Obligations.AddrChangesOnlyAtReset : Prop :=
  ∀ s t : State, step s = .next t → t.cfg = s.cfg ∧ (s.resetReq = none → t.addr = s.addr)

/-- A cache register that holds a value holds one after every step but the reset event. -/
def Obligations.OnlyResetReturnsTheCacheToNoValue : Prop :=
  ∀ s t : State, step s = .next t → s.resetReq = none →
    (s.mode.isSome = true → t.mode.isSome = true) ∧ (s.value.isSome = true → t.value.isSome = true)

/-- Which steps change the cache (10_state.md R30): the acceptance of SETMODE, WRU12 or WRITE, a frame taken by
RD_DAC, and WREEPROM's ready frame if WREEPROM_UPDATES_CACHE. (An acceptance may also fix a half of the cache
that held no value: log entry 3.) -/
def Obligations.OnlyTheseStepsWriteTheCache : Prop :=
  ∀ s t : State, step s = .next t → s.resetReq = none → (t.mode ≠ s.mode ∨ t.value ≠ s.value) →
    (∃ m, s.fetch = some (.setmode m)) ∨ (∃ v, s.fetch = some (.wru12 v)) ∨
    (∃ v, s.fetch = some (.write v)) ∨
    (∃ f, s.fetch = some (.frameStatus f) ∧
      (s.phase = .wDac ∨
        (s.phase = .wPoll ∧ s.cur = .wreeprom ∧ s.cfg.wreepromUpdatesCache = true ∧
          f.b0.getLsbD 7 = true)))

/-! ### Whole commands -/

/-- From an open port, PROBE, GCRESET and GCWAKE make exactly one write and answer OK with its ack, for either
ack; the cache is untouched, held or not. -/
def Obligations.PresenceCommandsRunToTheirResponse : Prop :=
  ∀ (s : State) (cw : CmdWord) (rest : List Request) (a : Bool) (as : List Answer), s.Ready →
    s.host = .word cw :: rest → s.env = .answers (.ack a :: as) →
    (cw &&& 0xFC0000 = 0x000000 → run 3 s = .next { s with
      host := rest, cur := .probe, viaRead := false, env := .answers as
      outputs := .done { status := .ok, ack := a } none :: .busWrite s.addr [] :: s.outputs }) ∧
    (cw &&& 0xFC0000 = 0x100000 → run 3 s = .next { s with
      host := rest, cur := .gcreset, viaRead := false, env := .answers as
      outputs := .done { status := .ok, ack := a } none :: .busWrite 0x00 [0x06] :: s.outputs }) ∧
    (cw &&& 0xFC0000 = 0x200000 → run 3 s = .next { s with
      host := rest, cur := .gcwake, viaRead := false, env := .answers as
      outputs := .done { status := .ok, ack := a } none :: .busWrite 0x00 [0x09] :: s.outputs })

/-- From an open port, SETMODE and WRU12 make exactly one fast write of the whole pair and answer OK with its
ack; the cache update stands for either ack. -/
def Obligations.FastWriteCommandsRunToTheirResponse : Prop :=
  ∀ (s : State) (cw : CmdWord) (rest : List Request) (a : Bool) (as : List Answer), s.Ready →
    s.host = .word cw :: rest → s.env = .answers (.ack a :: as) →
    (∀ v, s.value = some v → cw &&& 0xFC0000 = 0x400000 → run 3 s = .next { s with
      host := rest, cur := .setmode, viaRead := false, env := .answers as
      mode := some (cw.extractLsb' 16 2)
      outputs := .done { status := .ok, ack := a } none
        :: .busWrite s.addr (packFast (cw.extractLsb' 16 2) v) :: s.outputs }) ∧
    (∀ m, s.mode = some m → cw &&& 0xFC0000 = 0x600000 → run 3 s = .next { s with
      host := rest, cur := .wru12, viaRead := false, env := .answers as
      value := some (cw.extractLsb' 0 12)
      outputs := .done { status := .ok, ack := a } none
        :: .busWrite s.addr (packFast m (cw.extractLsb' 0 12)) :: s.outputs })

/-- From an open port, GETMODE and RDVAL make exactly one read, load both cache registers from whatever five
bytes came back, and return one of them. -/
def Obligations.DacReadsRunToTheirResponse : Prop :=
  ∀ (s : State) (cw : CmdWord) (rest : List Request) (f : StatusFrame) (as : List Answer), s.Ready →
    s.host = .word cw :: rest → s.env = .answers (.bytes (statusBytes f) :: as) →
    (cw &&& 0xFC0000 = 0x300000 → run 3 s = .next { s with
      host := rest, cur := .getmode, viaRead := false, env := .answers as
      mode := some (unpackDac f).1, value := some (unpackDac f).2
      outputs := .done { status := .ok, mode := (unpackDac f).1 } none
        :: .busRead s.addr 5 :: s.outputs }) ∧
    (cw &&& 0xFC0000 = 0x500000 → run 3 s = .next { s with
      host := rest, cur := .rdval, viaRead := false, env := .answers as
      mode := some (unpackDac f).1, value := some (unpackDac f).2
      outputs := .done { status := .ok, value := (unpackDac f).2 } none
        :: .busRead s.addr 5 :: s.outputs })

/-- RDEEPROM against any number of not-ready frames and then a ready one, within POLL_LIMIT if that is set: one
read more than there were not-ready frames, nothing else on the bus, and the ready frame's EEPROM fields. -/
def Obligations.RdeepromReadsUntilReady : Prop :=
  ∀ (s : State) (cw : CmdWord) (rest : List Request) (fs : List StatusFrame) (g : StatusFrame)
    (as : List Answer), s.Ready → s.host = .word cw :: rest → cw &&& 0xFC0000 = 0x700000 →
    s.env = .answers (fs.map (fun f => .bytes (statusBytes f)) ++ .bytes (statusBytes g) :: as) →
    (∀ f ∈ fs, f.b0.getLsbD 7 = false) → g.b0.getLsbD 7 = true →
    (∀ n, s.cfg.pollLimit = some n → fs.length < n) →
    run (2 * fs.length + 3) s = .next { s with
      host := rest, cur := .rdeeprom, viaRead := false, polls := fs.length, env := .answers as
      outputs := .done { status := .ok, mode := (unpackEeprom g).1, value := (unpackEeprom g).2 } none
        :: (List.replicate (fs.length + 1) (.busRead s.addr 5) ++ s.outputs) }

/-- WREEPROM likewise, and after the ready frame exactly one EEPROM write; the cache is updated if and only if
WREEPROM_UPDATES_CACHE. -/
def Obligations.WreepromWritesOnceAfterReady : Prop :=
  ∀ (s : State) (cw : CmdWord) (rest : List Request) (fs : List StatusFrame) (g : StatusFrame) (a : Bool)
    (as : List Answer), s.Ready → s.host = .word cw :: rest → cw &&& 0xFC0000 = 0x800000 →
    s.env = .answers
      (fs.map (fun f => .bytes (statusBytes f)) ++ .bytes (statusBytes g) :: .ack a :: as) →
    (∀ f ∈ fs, f.b0.getLsbD 7 = false) → g.b0.getLsbD 7 = true →
    (∀ n, s.cfg.pollLimit = some n → fs.length < n) →
    run (2 * fs.length + 5) s = .next { s with
      host := rest, cur := .wreeprom, viaRead := false, polls := fs.length, env := .answers as
      lm := cw.extractLsb' 16 2, lv := cw.extractLsb' 0 12
      mode := if s.cfg.wreepromUpdatesCache then some (cw.extractLsb' 16 2) else s.mode
      value := if s.cfg.wreepromUpdatesCache then some (cw.extractLsb' 0 12) else s.value
      outputs := .done { status := .ok, ack := a } none
        :: .busWrite s.addr (packEewr (cw.extractLsb' 16 2) (cw.extractLsb' 0 12))
        :: (List.replicate (fs.length + 1) (.busRead s.addr 5) ++ s.outputs) }

/-- 60_exceptions.md R163: with POLL_LIMIT = n, `n` not-ready frames in a row end an EEPROM command with
TIMEOUT: exactly `n` reads, no write, no cache update; the port is open again. -/
def Obligations.PollLimitEndsWithTimeout : Prop :=
  packResponse { status := .timeout } = 0x200000 ∧
  ∀ (s : State) (cw : CmdWord) (rest : List Request) (fs : List StatusFrame) (as : List Answer),
    s.Ready → s.host = .word cw :: rest → 1 ≤ fs.length → s.cfg.pollLimit = some fs.length →
    s.env = .answers (fs.map (fun f => .bytes (statusBytes f)) ++ as) →
    (∀ f ∈ fs, f.b0.getLsbD 7 = false) →
    (cw &&& 0xFC0000 = 0x700000 → run (2 * fs.length + 1) s = .next { s with
      host := rest, cur := .rdeeprom, viaRead := false, polls := fs.length, env := .answers as
      outputs := .done { status := .timeout } none
        :: (List.replicate fs.length (.busRead s.addr 5) ++ s.outputs) }) ∧
    (cw &&& 0xFC0000 = 0x800000 → run (2 * fs.length + 1) s = .next { s with
      host := rest, cur := .wreeprom, viaRead := false, polls := fs.length, env := .answers as
      lm := cw.extractLsb' 16 2, lv := cw.extractLsb' 0 12
      outputs := .done { status := .timeout } none
        :: (List.replicate fs.length (.busRead s.addr 5) ++ s.outputs) })

/-- Without POLL_LIMIT an EEPROM command waits as long as the frames are not ready: after any number of them it
still polls, has answered nothing and accepted nothing more (the hang of 60_exceptions.md R162 is kept). -/
def Obligations.UnboundedWaitNeverCompletes : Prop :=
  ∀ (s : State) (cw : CmdWord) (rest : List Request) (fs : List StatusFrame) (as : List Answer),
    s.Ready → s.host = .word cw :: rest →
    (cw &&& 0xFC0000 = 0x700000 ∨ cw &&& 0xFC0000 = 0x800000) → s.cfg.pollLimit = none →
    s.env = .answers (fs.map (fun f => .bytes (statusBytes f)) ++ as) →
    (∀ f ∈ fs, f.b0.getLsbD 7 = false) →
    ∃ t, run (2 * fs.length + 1) s = .next t ∧ t.phase = .wPoll ∧ t.bus = .reading s.addr ∧
      t.polls = fs.length ∧ t.host = rest ∧ t.mode = s.mode ∧ t.value = s.value ∧
      t.outputs = List.replicate (fs.length + 1) (.busRead s.addr 5) ++ s.outputs

/-- After SETMODE or WRU12 completes with ack = 1 against a reference device of ADDR that is not busy, the cache
equals the device's DAC register in both fields, and SETMODE has not altered the value (41_dac_register.md
R110, R117). -/
def Obligations.CacheAgreesWithTheDeviceAfterAFastWrite : Prop :=
  ∀ (s : State) (cw : CmdWord) (rest : List Request) (d : Device) (m : PowerMode) (v : DacValue),
    s.Ready → s.host = .word cw :: rest → s.env = .devices [d] → d.devAddr = s.addr →
    s.addr ≠ Config.broadcast → d.present = true → d.busy = false → s.mode = some m → s.value = some v →
    (cw &&& 0xFC0000 = 0x400000 → ∃ t d', run 3 s = .next t ∧ t.env = .devices [d'] ∧
      t.mode = some (cw.extractLsb' 16 2) ∧ t.value = some v ∧
      d'.dmode = cw.extractLsb' 16 2 ∧ d'.dval = v ∧
      t.outputs.head? = some (.done { status := .ok, ack := true } none)) ∧
    (cw &&& 0xFC0000 = 0x600000 → ∃ t d', run 3 s = .next t ∧ t.env = .devices [d'] ∧
      t.mode = some m ∧ t.value = some (cw.extractLsb' 0 12) ∧
      d'.dmode = m ∧ d'.dval = cw.extractLsb' 0 12 ∧
      t.outputs.head? = some (.done { status := .ok, ack := true } none))

/-- The stale cache (70_reset_and_hazards.md R187, the worked case): GCWAKE clears the device's mode and leaves
the cached one, and the next WRU12 writes the cached mode back. It holds of an absent device too: that one
takes the two writes by the literal reading of 20_memory.md R61 and R65, whose effect does not depend on
`present` (log entry 9, DEDUCED). -/
def Obligations.WakeThenWriteRestoresTheStaleMode : Prop :=
  ∀ (s : State) (x : BitVec 16) (rest : List Request) (d : Device) (m : PowerMode) (v : DacValue),
    s.Ready → s.host = .word 0x200000 :: .word (0x600000 ||| x.setWidth 24) :: rest →
    s.env = .devices [d] → d.devAddr = s.addr → s.addr ≠ Config.broadcast → d.busy = false →
    s.mode = some m → s.value = some v →
    (∃ t d', run 3 s = .next t ∧ t.env = .devices [d'] ∧ d'.dmode = 0 ∧ t.mode = some m ∧
      t.value = some v) ∧
    (∃ t d', run 6 s = .next t ∧ t.env = .devices [d'] ∧ d'.dmode = m ∧ d'.dval = x.setWidth 12 ∧
      t.mode = some m)

/-- Write then read through the reference device gives the value back: WRU12 and then RDVAL return the low 12
bits of the operand. With MODE unwritten the WRU12 completes by the model's choice, the draw reading (log
entry 3). -/
def Obligations.RawWriteReadsBackItsLowTwelveBits : Prop :=
  ∀ (s : State) (x : BitVec 16) (rest : List Request) (d : Device),
    s.Ready → s.host = .word (0x600000 ||| x.setWidth 24) :: .word 0x500000 :: rest →
    s.env = .devices [d] → d.devAddr = s.addr → s.addr ≠ Config.broadcast → d.present = true →
    d.busy = false →
    ∃ t, run 6 s = .next t ∧ t.phase = .idle ∧ t.host = rest ∧ t.value = some (x.setWidth 12) ∧
      t.outputs.head? = some (.done { status := .ok, value := x.setWidth 12 } none)

/-- 43_normalized.md R155 (a), on the machine: WRITE v then READ through a reference device that is not busy
returns a number at most 1/4095 below v, for every v in [0, 1]. With MODE unwritten the WRITE completes by the
model's choice, the draw reading (log entry 3). -/
def Obligations.NormalizedWriteReadsBackWithinOneStep : Prop :=
  ∀ (s : State) (v : NormNum) (rest : List Request) (d : Device),
    s.Ready → s.host = .write v :: .read :: rest → s.env = .devices [d] → d.devAddr = s.addr →
    s.addr ≠ Config.broadcast → d.present = true → d.busy = false → 0 ≤ v → v ≤ 1 →
    ∃ (t : State) (r : NormNum) (rsp : Rsp), run 6 s = .next t ∧ t.host = rest ∧
      t.outputs.head? = some (.done rsp (some r)) ∧ 0 ≤ v - r ∧ v - r < 1 / 4095

/-- 20_memory.md R64: a busy device may become ready before any step of the machine, also while nothing is on
the bus, or stay busy; nothing else it holds changes, and a device that is not busy stays so. Every step is
the devices' own steps and then what is due. The device's coming choices, one a step, are the model's form of
its freedom (log entry 8); that the idle port steps at all is log entry 2. -/
def Obligations.ADeviceMayBecomeReadyAtAnyStep : Prop :=
  (∀ s : State, step s = s.settleDevices.dueWith exec) ∧
  (∀ (s : State) (ds : List Device), s.env = .devices ds →
    s.settleDevices = { s with env := .devices (ds.map (Device.settle s.draws)), draws := s.draws + 1 }) ∧
  (∀ (n : Nat) (d : Device) (b : Bool) (bs : List Bool), d.busyEnds = b :: bs →
    d.settle n = { d with busy := if b then false else d.busy, busyEnds := bs }) ∧
  (∀ (n : Nat) (d : Device), ∃ b : Bool,
    d.settle n = { d with busy := if b then false else d.busy, busyEnds := d.busyEnds.tail }) ∧
  (∀ (s : State) (d : Device) (b : Bool) (bs : List Bool), s.Ready → s.host = [] →
    s.env = .devices [d] → d.busy = true → d.busyEnds = b :: bs →
    step s = .next { s with
      env := .devices [{ d with busy := !b, busyEnds := bs }], draws := s.draws + 1 })
end

