-- ==== Sys2Proof/Laws/Codec.lean ====
section
/-! SUPPORT. Small lemmas about the operand forms: the fields of a packed command word, the classes of
packed frames. -/

namespace Sys2Proof.Machine

section Command
variable (op : BitVec 4) (rsv : BitVec 2) (m : PowerMode) (v : BitVec 16)

@[simp] theorem cwOp_packCommand : cwOp (packCommand op rsv m v) = op := by
  ext i hi
  simp only [cwOp, packCommand, BitVec.getElem_extractLsb', BitVec.getLsbD_append]
  interval_cases i <;> simp

@[simp] theorem cwRsv_packCommand : cwRsv (packCommand op rsv m v) = rsv := by
  ext i hi
  simp only [cwRsv, packCommand, BitVec.getElem_extractLsb', BitVec.getLsbD_append]
  interval_cases i <;> simp

@[simp] theorem cwMode_packCommand : cwMode (packCommand op rsv m v) = m := by
  ext i hi
  simp only [cwMode, packCommand, BitVec.getElem_extractLsb', BitVec.getLsbD_append]
  interval_cases i <;> simp

@[simp] theorem cwValue_packCommand : cwValue (packCommand op rsv m v) = v := by
  ext i hi
  simp only [cwValue, packCommand, BitVec.getElem_extractLsb', BitVec.getLsbD_append]
  interval_cases i <;> simp

/-- A command word is the packing of its four fields: no bit is left out. -/
theorem packCommand_fields (cw : CmdWord) :
    packCommand (cwOp cw) (cwRsv cw) (cwMode cw) (cwValue cw) = cw := by
  apply BitVec.eq_of_getLsbD_eq
  intro i hi
  simp only [cwOp, cwRsv, cwMode, cwValue, packCommand, BitVec.getLsbD_append,
    BitVec.getLsbD_extractLsb']
  interval_cases i <;> simp

/-- The mask of 30_encoding.md R72 keeps `op` and `rsv`. -/
theorem packCommand_and_mask : packCommand op rsv m v &&& 0xFC0000#24 = packCommand op rsv 0 0 := by
  apply BitVec.eq_of_getLsbD_eq
  intro i hi
  simp only [packCommand, BitVec.getLsbD_append, BitVec.getLsbD_and]
  interval_cases i <;> simp

/-- The mask of a reserved opcode's row keeps `op` alone. -/
theorem packCommand_and_op : packCommand op rsv m v &&& 0xF00000#24 = packCommand op 0 0 0 := by
  apply BitVec.eq_of_getLsbD_eq
  intro i hi
  simp only [packCommand, BitVec.getLsbD_append, BitVec.getLsbD_and]
  interval_cases i <;> simp

/-- A value of 12 bits leaves the high four bits of the value field zero. -/
theorem packCommand_zext16_and (x : DacValue) :
    packCommand op rsv m (zext16 x) &&& 0xFFF000#24 = packCommand op rsv m 0 := by
  apply BitVec.eq_of_getLsbD_eq
  intro i hi
  simp only [packCommand, zext16, BitVec.getLsbD_append, BitVec.getLsbD_and, BitVec.getLsbD_setWidth]
  interval_cases i <;> simp

/-- Decoding the packing of four fields. -/
theorem decodeCommand_packCommand :
    decodeCommand (packCommand op rsv m v) =
      if rsv = 0#2 then decodeOpcode op m v else .reservedRsv op rsv m v := by
  simp [decodeCommand]

end Command

/-- Truncating what was extended gives the value back. -/
@[simp] theorem trunc12_zext16 (v : DacValue) : trunc12 (zext16 v) = v := by
  apply BitVec.eq_of_getLsbD_eq
  intro i hi
  simp only [trunc12, zext16, BitVec.getLsbD_extractLsb', BitVec.getLsbD_setWidth]
  interval_cases i <;> simp

/-- Masking to 12 bits is dropping the high four. -/
theorem trunc12_eq_setWidth (v : BitVec 16) : trunc12 v = v.setWidth 12 := by
  apply BitVec.eq_of_getLsbD_eq
  intro i hi
  simp only [trunc12, BitVec.getLsbD_extractLsb', BitVec.getLsbD_setWidth]
  interval_cases i <;> simp

/-- Appending a byte on the right multiplies by 256 and adds. -/
theorem toNat_append_byte {n : Nat} (a : BitVec n) (b : Byte) :
    (a ++ b).toNat = a.toNat * 256 + b.toNat := by
  rw [BitVec.toNat_append, ← Nat.shiftLeft_add_eq_or_of_lt b.isLt, Nat.shiftLeft_eq]

/-- Two bytes as one number of the table. -/
theorem frameNumber_two (a b : Byte) : frameNumber [a, b] = (a ++ b).toNat := by
  simp [frameNumber, toNat_append_byte]

/-- Three bytes as one number of the table. -/
theorem frameNumber_three (a b c : Byte) : frameNumber [a, b, c] = (a ++ b ++ c).toNat := by
  simp [frameNumber, toNat_append_byte]

/-- The constant bits of a fast write (30_encoding.md R80). -/
theorem packFast_and_mask (m : PowerMode) (v : DacValue) :
    frameNumber (packFast m v) &&& 0xC000 = 0 := by
  rw [packFast, frameNumber_two, show (0xC000 : Nat) = (0xC000#16).toNat from rfl,
    ← BitVec.toNat_and, show (0 : Nat) = (0#16).toNat from rfl]
  congr 1
  apply BitVec.eq_of_getLsbD_eq
  intro i hi
  simp only [BitVec.getLsbD_append, BitVec.getLsbD_and]
  interval_cases i <;> simp

/-- The constant bits of an EEPROM write (30_encoding.md R81). -/
theorem packEewr_and_mask (m : PowerMode) (v : DacValue) :
    frameNumber (packEewr m v) &&& 0xF9000F = 0x600000 := by
  rw [packEewr, frameNumber_three, show (0xF9000F : Nat) = (0xF9000F#24).toNat from rfl,
    ← BitVec.toNat_and, show (0x600000 : Nat) = (0x600000#24).toNat from rfl]
  congr 1
  apply BitVec.eq_of_getLsbD_eq
  intro i hi
  simp only [BitVec.getLsbD_append, BitVec.getLsbD_and]
  interval_cases i <;> simp

end Sys2Proof.Machine
end

