-- ==== Sys2Proof/Laws/State.lean ====
section
/-! SUPPORT. One lemma per field per update of the state, so that no later proof unfolds a record update. -/

namespace Sys2Proof.Machine

variable (s : State)

/-! ### accept -/

@[simp] theorem State.accept_cfg (c : Command) (b : Bool) : (s.accept c b).cfg = s.cfg := rfl
@[simp] theorem State.accept_addr (c : Command) (b : Bool) : (s.accept c b).addr = s.addr := rfl
@[simp] theorem State.accept_mode (c : Command) (b : Bool) : (s.accept c b).mode = s.mode := rfl
@[simp] theorem State.accept_value (c : Command) (b : Bool) : (s.accept c b).value = s.value := rfl
@[simp] theorem State.accept_phase (c : Command) (b : Bool) : (s.accept c b).phase = s.phase := rfl
@[simp] theorem State.accept_cur (c : Command) (b : Bool) : (s.accept c b).cur = c := rfl
@[simp] theorem State.accept_lm (c : Command) (b : Bool) : (s.accept c b).lm = s.lm := rfl
@[simp] theorem State.accept_lv (c : Command) (b : Bool) : (s.accept c b).lv = s.lv := rfl
@[simp] theorem State.accept_polls (c : Command) (b : Bool) : (s.accept c b).polls = s.polls := rfl
@[simp] theorem State.accept_viaRead (c : Command) (b : Bool) : (s.accept c b).viaRead = b := rfl
@[simp] theorem State.accept_host (c : Command) (b : Bool) : (s.accept c b).host = s.host.tail := rfl
@[simp] theorem State.accept_resetReq (c : Command) (b : Bool) : (s.accept c b).resetReq = s.resetReq := rfl
@[simp] theorem State.accept_bus (c : Command) (b : Bool) : (s.accept c b).bus = s.bus := rfl
@[simp] theorem State.accept_env (c : Command) (b : Bool) : (s.accept c b).env = s.env := rfl
@[simp] theorem State.accept_outputs (c : Command) (b : Bool) : (s.accept c b).outputs = s.outputs := rfl
@[simp] theorem State.accept_draws (c : Command) (b : Bool) : (s.accept c b).draws = s.draws := rfl

/-! ### issueWrite -/

@[simp] theorem State.issueWrite_cfg (a : Addr) (f : Frame) : (s.issueWrite a f).cfg = s.cfg := rfl
@[simp] theorem State.issueWrite_addr (a : Addr) (f : Frame) : (s.issueWrite a f).addr = s.addr := rfl
@[simp] theorem State.issueWrite_mode (a : Addr) (f : Frame) : (s.issueWrite a f).mode = s.mode := rfl
@[simp] theorem State.issueWrite_value (a : Addr) (f : Frame) : (s.issueWrite a f).value = s.value := rfl
@[simp] theorem State.issueWrite_phase (a : Addr) (f : Frame) : (s.issueWrite a f).phase = .wAck := rfl
@[simp] theorem State.issueWrite_cur (a : Addr) (f : Frame) : (s.issueWrite a f).cur = s.cur := rfl
@[simp] theorem State.issueWrite_lm (a : Addr) (f : Frame) : (s.issueWrite a f).lm = s.lm := rfl
@[simp] theorem State.issueWrite_lv (a : Addr) (f : Frame) : (s.issueWrite a f).lv = s.lv := rfl
@[simp] theorem State.issueWrite_polls (a : Addr) (f : Frame) : (s.issueWrite a f).polls = s.polls := rfl
@[simp] theorem State.issueWrite_viaRead (a : Addr) (f : Frame) : (s.issueWrite a f).viaRead = s.viaRead := rfl
@[simp] theorem State.issueWrite_host (a : Addr) (f : Frame) : (s.issueWrite a f).host = s.host := rfl
@[simp] theorem State.issueWrite_resetReq (a : Addr) (f : Frame) : (s.issueWrite a f).resetReq = s.resetReq := rfl
@[simp] theorem State.issueWrite_bus (a : Addr) (f : Frame) : (s.issueWrite a f).bus = .writing a f := rfl
@[simp] theorem State.issueWrite_env (a : Addr) (f : Frame) : (s.issueWrite a f).env = s.env := rfl
@[simp] theorem State.issueWrite_outputs (a : Addr) (f : Frame) : (s.issueWrite a f).outputs = .busWrite a f :: s.outputs := rfl
@[simp] theorem State.issueWrite_draws (a : Addr) (f : Frame) : (s.issueWrite a f).draws = s.draws := rfl

/-! ### issueRead -/

@[simp] theorem State.issueRead_cfg (p : Phase) : (s.issueRead p).cfg = s.cfg := rfl
@[simp] theorem State.issueRead_addr (p : Phase) : (s.issueRead p).addr = s.addr := rfl
@[simp] theorem State.issueRead_mode (p : Phase) : (s.issueRead p).mode = s.mode := rfl
@[simp] theorem State.issueRead_value (p : Phase) : (s.issueRead p).value = s.value := rfl
@[simp] theorem State.issueRead_phase (p : Phase) : (s.issueRead p).phase = p := rfl
@[simp] theorem State.issueRead_cur (p : Phase) : (s.issueRead p).cur = s.cur := rfl
@[simp] theorem State.issueRead_lm (p : Phase) : (s.issueRead p).lm = s.lm := rfl
@[simp] theorem State.issueRead_lv (p : Phase) : (s.issueRead p).lv = s.lv := rfl
@[simp] theorem State.issueRead_polls (p : Phase) : (s.issueRead p).polls = s.polls := rfl
@[simp] theorem State.issueRead_viaRead (p : Phase) : (s.issueRead p).viaRead = s.viaRead := rfl
@[simp] theorem State.issueRead_host (p : Phase) : (s.issueRead p).host = s.host := rfl
@[simp] theorem State.issueRead_resetReq (p : Phase) : (s.issueRead p).resetReq = s.resetReq := rfl
@[simp] theorem State.issueRead_bus (p : Phase) : (s.issueRead p).bus = .reading s.addr := rfl
@[simp] theorem State.issueRead_env (p : Phase) : (s.issueRead p).env = s.env := rfl
@[simp] theorem State.issueRead_outputs (p : Phase) : (s.issueRead p).outputs = .busRead s.addr Config.statusLen :: s.outputs := rfl
@[simp] theorem State.issueRead_draws (p : Phase) : (s.issueRead p).draws = s.draws := rfl

/-! ### finish -/

@[simp] theorem State.finish_cfg (r : Rsp) (n : Option NormNum) : (s.finish r n).cfg = s.cfg := rfl
@[simp] theorem State.finish_addr (r : Rsp) (n : Option NormNum) : (s.finish r n).addr = s.addr := rfl
@[simp] theorem State.finish_mode (r : Rsp) (n : Option NormNum) : (s.finish r n).mode = s.mode := rfl
@[simp] theorem State.finish_value (r : Rsp) (n : Option NormNum) : (s.finish r n).value = s.value := rfl
@[simp] theorem State.finish_phase (r : Rsp) (n : Option NormNum) : (s.finish r n).phase = .idle := rfl
@[simp] theorem State.finish_cur (r : Rsp) (n : Option NormNum) : (s.finish r n).cur = s.cur := rfl
@[simp] theorem State.finish_lm (r : Rsp) (n : Option NormNum) : (s.finish r n).lm = s.lm := rfl
@[simp] theorem State.finish_lv (r : Rsp) (n : Option NormNum) : (s.finish r n).lv = s.lv := rfl
@[simp] theorem State.finish_polls (r : Rsp) (n : Option NormNum) : (s.finish r n).polls = s.polls := rfl
@[simp] theorem State.finish_viaRead (r : Rsp) (n : Option NormNum) : (s.finish r n).viaRead = s.viaRead := rfl
@[simp] theorem State.finish_host (r : Rsp) (n : Option NormNum) : (s.finish r n).host = s.host := rfl
@[simp] theorem State.finish_resetReq (r : Rsp) (n : Option NormNum) : (s.finish r n).resetReq = s.resetReq := rfl
@[simp] theorem State.finish_bus (r : Rsp) (n : Option NormNum) : (s.finish r n).bus = .quiet := rfl
@[simp] theorem State.finish_env (r : Rsp) (n : Option NormNum) : (s.finish r n).env = s.env := rfl
@[simp] theorem State.finish_outputs (r : Rsp) (n : Option NormNum) : (s.finish r n).outputs = .done r n :: s.outputs := rfl
@[simp] theorem State.finish_draws (r : Rsp) (n : Option NormNum) : (s.finish r n).draws = s.draws := rfl

/-! ### raiseIllegal -/

@[simp] theorem State.raiseIllegal_cfg : (s.raiseIllegal).cfg = s.cfg := rfl
@[simp] theorem State.raiseIllegal_addr : (s.raiseIllegal).addr = s.addr := rfl
@[simp] theorem State.raiseIllegal_mode : (s.raiseIllegal).mode = s.mode := rfl
@[simp] theorem State.raiseIllegal_value : (s.raiseIllegal).value = s.value := rfl
@[simp] theorem State.raiseIllegal_phase : (s.raiseIllegal).phase = s.phase := rfl
@[simp] theorem State.raiseIllegal_cur : (s.raiseIllegal).cur = s.cur := rfl
@[simp] theorem State.raiseIllegal_lm : (s.raiseIllegal).lm = s.lm := rfl
@[simp] theorem State.raiseIllegal_lv : (s.raiseIllegal).lv = s.lv := rfl
@[simp] theorem State.raiseIllegal_polls : (s.raiseIllegal).polls = s.polls := rfl
@[simp] theorem State.raiseIllegal_viaRead : (s.raiseIllegal).viaRead = s.viaRead := rfl
@[simp] theorem State.raiseIllegal_host : (s.raiseIllegal).host = s.host.tail := rfl
@[simp] theorem State.raiseIllegal_resetReq : (s.raiseIllegal).resetReq = s.resetReq := rfl
@[simp] theorem State.raiseIllegal_bus : (s.raiseIllegal).bus = s.bus := rfl
@[simp] theorem State.raiseIllegal_env : (s.raiseIllegal).env = s.env := rfl
@[simp] theorem State.raiseIllegal_outputs : (s.raiseIllegal).outputs = .done { status := .illegal } none :: s.outputs := rfl
@[simp] theorem State.raiseIllegal_draws : (s.raiseIllegal).draws = s.draws := rfl

/-! ### raiseTimeout -/

@[simp] theorem State.raiseTimeout_cfg : (s.raiseTimeout).cfg = s.cfg := rfl
@[simp] theorem State.raiseTimeout_addr : (s.raiseTimeout).addr = s.addr := rfl
@[simp] theorem State.raiseTimeout_mode : (s.raiseTimeout).mode = s.mode := rfl
@[simp] theorem State.raiseTimeout_value : (s.raiseTimeout).value = s.value := rfl
@[simp] theorem State.raiseTimeout_phase : (s.raiseTimeout).phase = .idle := rfl
@[simp] theorem State.raiseTimeout_cur : (s.raiseTimeout).cur = s.cur := rfl
@[simp] theorem State.raiseTimeout_lm : (s.raiseTimeout).lm = s.lm := rfl
@[simp] theorem State.raiseTimeout_lv : (s.raiseTimeout).lv = s.lv := rfl
@[simp] theorem State.raiseTimeout_polls : (s.raiseTimeout).polls = s.polls := rfl
@[simp] theorem State.raiseTimeout_viaRead : (s.raiseTimeout).viaRead = s.viaRead := rfl
@[simp] theorem State.raiseTimeout_host : (s.raiseTimeout).host = s.host := rfl
@[simp] theorem State.raiseTimeout_resetReq : (s.raiseTimeout).resetReq = s.resetReq := rfl
@[simp] theorem State.raiseTimeout_bus : (s.raiseTimeout).bus = .quiet := rfl
@[simp] theorem State.raiseTimeout_env : (s.raiseTimeout).env = s.env := rfl
@[simp] theorem State.raiseTimeout_outputs : (s.raiseTimeout).outputs = .done { status := .timeout } none :: s.outputs := rfl
@[simp] theorem State.raiseTimeout_draws : (s.raiseTimeout).draws = s.draws := rfl

/-! ### setMode -/

@[simp] theorem State.setMode_cfg (m : PowerMode) : (s.setMode m).cfg = s.cfg := rfl
@[simp] theorem State.setMode_addr (m : PowerMode) : (s.setMode m).addr = s.addr := rfl
@[simp] theorem State.setMode_mode (m : PowerMode) : (s.setMode m).mode = some m := rfl
@[simp] theorem State.setMode_value (m : PowerMode) : (s.setMode m).value = s.value := rfl
@[simp] theorem State.setMode_phase (m : PowerMode) : (s.setMode m).phase = s.phase := rfl
@[simp] theorem State.setMode_cur (m : PowerMode) : (s.setMode m).cur = s.cur := rfl
@[simp] theorem State.setMode_lm (m : PowerMode) : (s.setMode m).lm = s.lm := rfl
@[simp] theorem State.setMode_lv (m : PowerMode) : (s.setMode m).lv = s.lv := rfl
@[simp] theorem State.setMode_polls (m : PowerMode) : (s.setMode m).polls = s.polls := rfl
@[simp] theorem State.setMode_viaRead (m : PowerMode) : (s.setMode m).viaRead = s.viaRead := rfl
@[simp] theorem State.setMode_host (m : PowerMode) : (s.setMode m).host = s.host := rfl
@[simp] theorem State.setMode_resetReq (m : PowerMode) : (s.setMode m).resetReq = s.resetReq := rfl
@[simp] theorem State.setMode_bus (m : PowerMode) : (s.setMode m).bus = s.bus := rfl
@[simp] theorem State.setMode_env (m : PowerMode) : (s.setMode m).env = s.env := rfl
@[simp] theorem State.setMode_outputs (m : PowerMode) : (s.setMode m).outputs = s.outputs := rfl
@[simp] theorem State.setMode_draws (m : PowerMode) : (s.setMode m).draws = s.draws := rfl

/-! ### setValue -/

@[simp] theorem State.setValue_cfg (v : DacValue) : (s.setValue v).cfg = s.cfg := rfl
@[simp] theorem State.setValue_addr (v : DacValue) : (s.setValue v).addr = s.addr := rfl
@[simp] theorem State.setValue_mode (v : DacValue) : (s.setValue v).mode = s.mode := rfl
@[simp] theorem State.setValue_value (v : DacValue) : (s.setValue v).value = some v := rfl
@[simp] theorem State.setValue_phase (v : DacValue) : (s.setValue v).phase = s.phase := rfl
@[simp] theorem State.setValue_cur (v : DacValue) : (s.setValue v).cur = s.cur := rfl
@[simp] theorem State.setValue_lm (v : DacValue) : (s.setValue v).lm = s.lm := rfl
@[simp] theorem State.setValue_lv (v : DacValue) : (s.setValue v).lv = s.lv := rfl
@[simp] theorem State.setValue_polls (v : DacValue) : (s.setValue v).polls = s.polls := rfl
@[simp] theorem State.setValue_viaRead (v : DacValue) : (s.setValue v).viaRead = s.viaRead := rfl
@[simp] theorem State.setValue_host (v : DacValue) : (s.setValue v).host = s.host := rfl
@[simp] theorem State.setValue_resetReq (v : DacValue) : (s.setValue v).resetReq = s.resetReq := rfl
@[simp] theorem State.setValue_bus (v : DacValue) : (s.setValue v).bus = s.bus := rfl
@[simp] theorem State.setValue_env (v : DacValue) : (s.setValue v).env = s.env := rfl
@[simp] theorem State.setValue_outputs (v : DacValue) : (s.setValue v).outputs = s.outputs := rfl
@[simp] theorem State.setValue_draws (v : DacValue) : (s.setValue v).draws = s.draws := rfl

/-! ### loadCache -/

@[simp] theorem State.loadCache_cfg (mv : PowerMode × DacValue) : (s.loadCache mv).cfg = s.cfg := rfl
@[simp] theorem State.loadCache_addr (mv : PowerMode × DacValue) : (s.loadCache mv).addr = s.addr := rfl
@[simp] theorem State.loadCache_mode (mv : PowerMode × DacValue) : (s.loadCache mv).mode = some mv.1 := rfl
@[simp] theorem State.loadCache_value (mv : PowerMode × DacValue) : (s.loadCache mv).value = some mv.2 := rfl
@[simp] theorem State.loadCache_phase (mv : PowerMode × DacValue) : (s.loadCache mv).phase = s.phase := rfl
@[simp] theorem State.loadCache_cur (mv : PowerMode × DacValue) : (s.loadCache mv).cur = s.cur := rfl
@[simp] theorem State.loadCache_lm (mv : PowerMode × DacValue) : (s.loadCache mv).lm = s.lm := rfl
@[simp] theorem State.loadCache_lv (mv : PowerMode × DacValue) : (s.loadCache mv).lv = s.lv := rfl
@[simp] theorem State.loadCache_polls (mv : PowerMode × DacValue) : (s.loadCache mv).polls = s.polls := rfl
@[simp] theorem State.loadCache_viaRead (mv : PowerMode × DacValue) : (s.loadCache mv).viaRead = s.viaRead := rfl
@[simp] theorem State.loadCache_host (mv : PowerMode × DacValue) : (s.loadCache mv).host = s.host := rfl
@[simp] theorem State.loadCache_resetReq (mv : PowerMode × DacValue) : (s.loadCache mv).resetReq = s.resetReq := rfl
@[simp] theorem State.loadCache_bus (mv : PowerMode × DacValue) : (s.loadCache mv).bus = s.bus := rfl
@[simp] theorem State.loadCache_env (mv : PowerMode × DacValue) : (s.loadCache mv).env = s.env := rfl
@[simp] theorem State.loadCache_outputs (mv : PowerMode × DacValue) : (s.loadCache mv).outputs = s.outputs := rfl
@[simp] theorem State.loadCache_draws (mv : PowerMode × DacValue) : (s.loadCache mv).draws = s.draws := rfl

/-! ### keepMode -/

@[simp] theorem State.keepMode_cfg : (s.keepMode).cfg = s.cfg := by
  unfold State.keepMode; split <;> rfl
@[simp] theorem State.keepMode_addr : (s.keepMode).addr = s.addr := by
  unfold State.keepMode; split <;> rfl
@[simp] theorem State.keepMode_mode : (s.keepMode).mode = some s.modeRead := by
  unfold State.keepMode State.modeRead; split <;> simp_all
@[simp] theorem State.keepMode_value : (s.keepMode).value = s.value := by
  unfold State.keepMode; split <;> rfl
@[simp] theorem State.keepMode_phase : (s.keepMode).phase = s.phase := by
  unfold State.keepMode; split <;> rfl
@[simp] theorem State.keepMode_cur : (s.keepMode).cur = s.cur := by
  unfold State.keepMode; split <;> rfl
@[simp] theorem State.keepMode_lm : (s.keepMode).lm = s.lm := by
  unfold State.keepMode; split <;> rfl
@[simp] theorem State.keepMode_lv : (s.keepMode).lv = s.lv := by
  unfold State.keepMode; split <;> rfl
@[simp] theorem State.keepMode_polls : (s.keepMode).polls = s.polls := by
  unfold State.keepMode; split <;> rfl
@[simp] theorem State.keepMode_viaRead : (s.keepMode).viaRead = s.viaRead := by
  unfold State.keepMode; split <;> rfl
@[simp] theorem State.keepMode_host : (s.keepMode).host = s.host := by
  unfold State.keepMode; split <;> rfl
@[simp] theorem State.keepMode_resetReq : (s.keepMode).resetReq = s.resetReq := by
  unfold State.keepMode; split <;> rfl
@[simp] theorem State.keepMode_bus : (s.keepMode).bus = s.bus := by
  unfold State.keepMode; split <;> rfl
@[simp] theorem State.keepMode_env : (s.keepMode).env = s.env := by
  unfold State.keepMode; split <;> rfl
@[simp] theorem State.keepMode_outputs : (s.keepMode).outputs = s.outputs := by
  unfold State.keepMode; split <;> rfl

/-! ### keepValue -/

@[simp] theorem State.keepValue_cfg : (s.keepValue).cfg = s.cfg := by
  unfold State.keepValue; split <;> rfl
@[simp] theorem State.keepValue_addr : (s.keepValue).addr = s.addr := by
  unfold State.keepValue; split <;> rfl
@[simp] theorem State.keepValue_mode : (s.keepValue).mode = s.mode := by
  unfold State.keepValue; split <;> rfl
@[simp] theorem State.keepValue_value : (s.keepValue).value = some s.valueRead := by
  unfold State.keepValue State.valueRead; split <;> simp_all
@[simp] theorem State.keepValue_phase : (s.keepValue).phase = s.phase := by
  unfold State.keepValue; split <;> rfl
@[simp] theorem State.keepValue_cur : (s.keepValue).cur = s.cur := by
  unfold State.keepValue; split <;> rfl
@[simp] theorem State.keepValue_lm : (s.keepValue).lm = s.lm := by
  unfold State.keepValue; split <;> rfl
@[simp] theorem State.keepValue_lv : (s.keepValue).lv = s.lv := by
  unfold State.keepValue; split <;> rfl
@[simp] theorem State.keepValue_polls : (s.keepValue).polls = s.polls := by
  unfold State.keepValue; split <;> rfl
@[simp] theorem State.keepValue_viaRead : (s.keepValue).viaRead = s.viaRead := by
  unfold State.keepValue; split <;> rfl
@[simp] theorem State.keepValue_host : (s.keepValue).host = s.host := by
  unfold State.keepValue; split <;> rfl
@[simp] theorem State.keepValue_resetReq : (s.keepValue).resetReq = s.resetReq := by
  unfold State.keepValue; split <;> rfl
@[simp] theorem State.keepValue_bus : (s.keepValue).bus = s.bus := by
  unfold State.keepValue; split <;> rfl
@[simp] theorem State.keepValue_env : (s.keepValue).env = s.env := by
  unfold State.keepValue; split <;> rfl
@[simp] theorem State.keepValue_outputs : (s.keepValue).outputs = s.outputs := by
  unfold State.keepValue; split <;> rfl

/-! ### rdDac -/

@[simp] theorem State.rdDac_cfg : (s.rdDac).cfg = s.cfg := rfl
@[simp] theorem State.rdDac_addr : (s.rdDac).addr = s.addr := rfl
@[simp] theorem State.rdDac_mode : (s.rdDac).mode = s.mode := rfl
@[simp] theorem State.rdDac_value : (s.rdDac).value = s.value := rfl
@[simp] theorem State.rdDac_phase : (s.rdDac).phase = .wDac := rfl
@[simp] theorem State.rdDac_cur : (s.rdDac).cur = s.cur := rfl
@[simp] theorem State.rdDac_lm : (s.rdDac).lm = s.lm := rfl
@[simp] theorem State.rdDac_lv : (s.rdDac).lv = s.lv := rfl
@[simp] theorem State.rdDac_polls : (s.rdDac).polls = s.polls := rfl
@[simp] theorem State.rdDac_viaRead : (s.rdDac).viaRead = s.viaRead := rfl
@[simp] theorem State.rdDac_host : (s.rdDac).host = s.host := rfl
@[simp] theorem State.rdDac_resetReq : (s.rdDac).resetReq = s.resetReq := rfl
@[simp] theorem State.rdDac_bus : (s.rdDac).bus = .reading s.addr := rfl
@[simp] theorem State.rdDac_env : (s.rdDac).env = s.env := rfl
@[simp] theorem State.rdDac_outputs : (s.rdDac).outputs = .busRead s.addr Config.statusLen :: s.outputs := rfl
@[simp] theorem State.rdDac_draws : (s.rdDac).draws = s.draws := rfl

/-! ### pollReady -/

@[simp] theorem State.pollReady_cfg : (s.pollReady).cfg = s.cfg := rfl
@[simp] theorem State.pollReady_addr : (s.pollReady).addr = s.addr := rfl
@[simp] theorem State.pollReady_mode : (s.pollReady).mode = s.mode := rfl
@[simp] theorem State.pollReady_value : (s.pollReady).value = s.value := rfl
@[simp] theorem State.pollReady_phase : (s.pollReady).phase = .wPoll := rfl
@[simp] theorem State.pollReady_cur : (s.pollReady).cur = s.cur := rfl
@[simp] theorem State.pollReady_lm : (s.pollReady).lm = s.lm := rfl
@[simp] theorem State.pollReady_lv : (s.pollReady).lv = s.lv := rfl
@[simp] theorem State.pollReady_polls : (s.pollReady).polls = 0 := rfl
@[simp] theorem State.pollReady_viaRead : (s.pollReady).viaRead = s.viaRead := rfl
@[simp] theorem State.pollReady_host : (s.pollReady).host = s.host := rfl
@[simp] theorem State.pollReady_resetReq : (s.pollReady).resetReq = s.resetReq := rfl
@[simp] theorem State.pollReady_bus : (s.pollReady).bus = .reading s.addr := rfl
@[simp] theorem State.pollReady_env : (s.pollReady).env = s.env := rfl
@[simp] theorem State.pollReady_outputs : (s.pollReady).outputs = .busRead s.addr Config.statusLen :: s.outputs := rfl
@[simp] theorem State.pollReady_draws : (s.pollReady).draws = s.draws := rfl

/-! ### settleDevices -/

@[simp] theorem State.settleDevices_cfg : s.settleDevices.cfg = s.cfg := by
  unfold State.settleDevices; split <;> rfl
@[simp] theorem State.settleDevices_addr : s.settleDevices.addr = s.addr := by
  unfold State.settleDevices; split <;> rfl
@[simp] theorem State.settleDevices_mode : s.settleDevices.mode = s.mode := by
  unfold State.settleDevices; split <;> rfl
@[simp] theorem State.settleDevices_value : s.settleDevices.value = s.value := by
  unfold State.settleDevices; split <;> rfl
@[simp] theorem State.settleDevices_phase : s.settleDevices.phase = s.phase := by
  unfold State.settleDevices; split <;> rfl
@[simp] theorem State.settleDevices_cur : s.settleDevices.cur = s.cur := by
  unfold State.settleDevices; split <;> rfl
@[simp] theorem State.settleDevices_lm : s.settleDevices.lm = s.lm := by
  unfold State.settleDevices; split <;> rfl
@[simp] theorem State.settleDevices_lv : s.settleDevices.lv = s.lv := by
  unfold State.settleDevices; split <;> rfl
@[simp] theorem State.settleDevices_polls : s.settleDevices.polls = s.polls := by
  unfold State.settleDevices; split <;> rfl
@[simp] theorem State.settleDevices_viaRead : s.settleDevices.viaRead = s.viaRead := by
  unfold State.settleDevices; split <;> rfl
@[simp] theorem State.settleDevices_host : s.settleDevices.host = s.host := by
  unfold State.settleDevices; split <;> rfl
@[simp] theorem State.settleDevices_resetReq : s.settleDevices.resetReq = s.resetReq := by
  unfold State.settleDevices; split <;> rfl
@[simp] theorem State.settleDevices_bus : s.settleDevices.bus = s.bus := by
  unfold State.settleDevices; split <;> rfl
@[simp] theorem State.settleDevices_outputs : s.settleDevices.outputs = s.outputs := by
  unfold State.settleDevices; split <;> rfl

/-! ### serveWrite -/

@[simp] theorem State.serveWrite_cfg (a : Addr) (f : Frame) : (s.serveWrite a f).cfg = s.cfg := by
  unfold State.serveWrite; split <;> rfl
@[simp] theorem State.serveWrite_addr (a : Addr) (f : Frame) : (s.serveWrite a f).addr = s.addr := by
  unfold State.serveWrite; split <;> rfl
@[simp] theorem State.serveWrite_mode (a : Addr) (f : Frame) : (s.serveWrite a f).mode = s.mode := by
  unfold State.serveWrite; split <;> rfl
@[simp] theorem State.serveWrite_value (a : Addr) (f : Frame) : (s.serveWrite a f).value = s.value := by
  unfold State.serveWrite; split <;> rfl
@[simp] theorem State.serveWrite_phase (a : Addr) (f : Frame) : (s.serveWrite a f).phase = s.phase := by
  unfold State.serveWrite; split <;> rfl
@[simp] theorem State.serveWrite_cur (a : Addr) (f : Frame) : (s.serveWrite a f).cur = s.cur := by
  unfold State.serveWrite; split <;> rfl
@[simp] theorem State.serveWrite_lm (a : Addr) (f : Frame) : (s.serveWrite a f).lm = s.lm := by
  unfold State.serveWrite; split <;> rfl
@[simp] theorem State.serveWrite_lv (a : Addr) (f : Frame) : (s.serveWrite a f).lv = s.lv := by
  unfold State.serveWrite; split <;> rfl
@[simp] theorem State.serveWrite_polls (a : Addr) (f : Frame) : (s.serveWrite a f).polls = s.polls := by
  unfold State.serveWrite; split <;> rfl
@[simp] theorem State.serveWrite_viaRead (a : Addr) (f : Frame) : (s.serveWrite a f).viaRead = s.viaRead := by
  unfold State.serveWrite; split <;> rfl
@[simp] theorem State.serveWrite_host (a : Addr) (f : Frame) : (s.serveWrite a f).host = s.host := by
  unfold State.serveWrite; split <;> rfl
@[simp] theorem State.serveWrite_resetReq (a : Addr) (f : Frame) : (s.serveWrite a f).resetReq = s.resetReq := by
  unfold State.serveWrite; split <;> rfl
@[simp] theorem State.serveWrite_outputs (a : Addr) (f : Frame) : (s.serveWrite a f).outputs = s.outputs := by
  unfold State.serveWrite; split <;> rfl

/-! ### serveRead -/

@[simp] theorem State.serveRead_cfg (a : Addr) : (s.serveRead a).cfg = s.cfg := by
  unfold State.serveRead; split <;> rfl
@[simp] theorem State.serveRead_addr (a : Addr) : (s.serveRead a).addr = s.addr := by
  unfold State.serveRead; split <;> rfl
@[simp] theorem State.serveRead_mode (a : Addr) : (s.serveRead a).mode = s.mode := by
  unfold State.serveRead; split <;> rfl
@[simp] theorem State.serveRead_value (a : Addr) : (s.serveRead a).value = s.value := by
  unfold State.serveRead; split <;> rfl
@[simp] theorem State.serveRead_phase (a : Addr) : (s.serveRead a).phase = s.phase := by
  unfold State.serveRead; split <;> rfl
@[simp] theorem State.serveRead_cur (a : Addr) : (s.serveRead a).cur = s.cur := by
  unfold State.serveRead; split <;> rfl
@[simp] theorem State.serveRead_lm (a : Addr) : (s.serveRead a).lm = s.lm := by
  unfold State.serveRead; split <;> rfl
@[simp] theorem State.serveRead_lv (a : Addr) : (s.serveRead a).lv = s.lv := by
  unfold State.serveRead; split <;> rfl
@[simp] theorem State.serveRead_polls (a : Addr) : (s.serveRead a).polls = s.polls := by
  unfold State.serveRead; split <;> rfl
@[simp] theorem State.serveRead_viaRead (a : Addr) : (s.serveRead a).viaRead = s.viaRead := by
  unfold State.serveRead; split <;> rfl
@[simp] theorem State.serveRead_host (a : Addr) : (s.serveRead a).host = s.host := by
  unfold State.serveRead; split <;> rfl
@[simp] theorem State.serveRead_resetReq (a : Addr) : (s.serveRead a).resetReq = s.resetReq := by
  unfold State.serveRead; split <;> rfl
@[simp] theorem State.serveRead_outputs (a : Addr) : (s.serveRead a).outputs = s.outputs := by
  unfold State.serveRead; split <;> rfl

/-! ### Reads of the cache -/

theorem State.modeRead_of_some {m : PowerMode} (h : s.mode = some m) : s.modeRead = m := by
  simp [State.modeRead, h]

theorem State.modeRead_of_none (h : s.mode = none) : s.modeRead = Config.freeMode s.draws := by
  simp [State.modeRead, h]

theorem State.valueRead_of_some {v : DacValue} (h : s.value = some v) : s.valueRead = v := by
  simp [State.valueRead, h]

theorem State.valueRead_of_none (h : s.value = none) : s.valueRead = Config.freeValue s.draws := by
  simp [State.valueRead, h]

theorem State.keepMode_of_some {m : PowerMode} (h : s.mode = some m) : s.keepMode = s := by
  simp [State.keepMode, h]

theorem State.keepMode_of_none (h : s.mode = none) :
    s.keepMode = { s with mode := some (Config.freeMode s.draws), draws := s.draws + 1 } := by
  simp [State.keepMode, State.modeRead, h]

theorem State.keepValue_of_some {v : DacValue} (h : s.value = some v) : s.keepValue = s := by
  simp [State.keepValue, h]

theorem State.keepValue_of_none (h : s.value = none) :
    s.keepValue = { s with value := some (Config.freeValue s.draws), draws := s.draws + 1 } := by
  simp [State.keepValue, State.valueRead, h]

@[simp] theorem State.keepMode_valueRead_of_some {m : PowerMode} (h : s.mode = some m) :
    s.keepMode.valueRead = s.valueRead := by rw [s.keepMode_of_some h]

end Sys2Proof.Machine
end

