-- ==== Sys2Proof/Laws/Ops.lean ====
section
/-! SUPPORT. One lemma per shared operation that says everything it can do: if it answers next, what the
next state is; else which fault or refusal. The proofs about a meaning cite these. -/

namespace Sys2Proof.Machine

variable {s t u : State}

/-- A command is accepted in IDLE and only there. -/
@[simp] theorem State.whenIdle_of_idle (h : s.phase = .idle) : s.whenIdle t = .next t := by
  simp [State.whenIdle, h]

theorem State.whenIdle_of_not_idle (h : s.phase ≠ .idle) : s.whenIdle t = .refused .portClosed := by
  simp [State.whenIdle, h]

theorem State.whenIdle_eq_next : s.whenIdle t = .next u ↔ s.phase = .idle ∧ u = t := by
  unfold State.whenIdle
  split <;> simp_all [eq_comm]

/-- Everything WrRsp(a) can do. -/
theorem State.takeAck_eq_next {a : Bool} (h : s.takeAck a = .next t) :
    s.phase = .wAck ∧ s.cur ∉ [Command.getmode, .rdval, .rdeeprom] ∧ t = s.finish { status := .ok, ack := a } none := by
  unfold State.takeAck at h
  split at h <;> try cases h
  split at h <;> cases h <;> simp_all

/-- Everything RD_DAC's frame can do. -/
theorem State.takeDacFrame_eq_next {f : StatusFrame} (h : s.takeDacFrame f = .next t) :
    (s.cur = .getmode ∧
      t = (s.loadCache (unpackDac f)).finish { status := .ok, mode := (unpackDac f).1 } none) ∨
    (s.cur = .rdval ∧
      t = (s.loadCache (unpackDac f)).finish { status := .ok, value := (unpackDac f).2 }
        (if s.viaRead then some (u12ToNorm (unpackDac f).2) else none)) := by
  unfold State.takeDacFrame at h
  split at h <;> cases h <;> simp_all

/-- Everything POLL_READY's frame can do. -/
theorem State.takePollFrame_eq_next {f : StatusFrame} (h : s.takePollFrame f = .next t) :
    (rdy f = false ∧ t = s.pollAgain) ∨
    (rdy f = true ∧ s.cur = .rdeeprom ∧ t = s.finish
      { status := .ok, mode := (unpackEeprom f).1, value := (unpackEeprom f).2 } none) ∨
    (rdy f = true ∧ s.cur = .wreeprom ∧ t = s.writeEeprom) := by
  unfold State.takePollFrame at h
  split at h
  · split at h <;> cases h <;> simp_all
  · cases h; simp_all

/-- Everything RdRsp(f) with a five-byte `f` can do. -/
theorem State.takeStatus_eq_next {f : StatusFrame} (h : s.takeStatus f = .next t) :
    (s.phase = .wDac ∧ s.takeDacFrame f = .next t) ∨
    (s.phase = .wPoll ∧ s.takePollFrame f = .next t) := by
  unfold State.takeStatus at h
  split at h <;> simp_all

/-- A not-ready frame either ends the command with TIMEOUT or is followed by the next read. -/
theorem State.pollAgain_cases :
    (limitReached s.cfg.pollLimit (s.polls + 1) = true ∧
      s.pollAgain = { s with polls := s.polls + 1 }.raiseTimeout) ∨
    (limitReached s.cfg.pollLimit (s.polls + 1) = false ∧
      s.pollAgain = { s with polls := s.polls + 1 }.issueRead .wPoll) := by
  unfold State.pollAgain
  cases limitReached s.cfg.pollLimit (s.polls + 1) <;> simp

/-- WREEPROM's write leaves everything but the cache, the phase, the bus and the outputs. -/
theorem State.writeEeprom_spec :
    s.writeEeprom = { s with
      mode := if s.cfg.wreepromUpdatesCache then some s.lm else s.mode
      value := if s.cfg.wreepromUpdatesCache then some s.lv else s.value
      phase := .wAck, bus := .writing s.addr (packEewr s.lm s.lv)
      outputs := .busWrite s.addr (packEewr s.lm s.lv) :: s.outputs } := by
  unfold State.writeEeprom
  cases h : s.cfg.wreepromUpdatesCache <;> rfl

/-- WR_DAC with both cache registers holding a value: one fast write, nothing drawn. -/
theorem State.wrDac_of_some {m : PowerMode} {v : DacValue} (hm : s.mode = some m)
    (hv : s.value = some v) : s.wrDac = s.issueWrite s.addr (packFast m v) := by
  unfold State.wrDac
  rw [s.keepMode_of_some hm, s.keepValue_of_some hv, s.modeRead_of_some hm, s.valueRead_of_some hv]

/-- WR_DAC leaves everything but the cache registers it had to draw, the phase, the bus, the outputs
and the count of draws. -/
theorem State.wrDac_spec :
    s.wrDac = { s with
      mode := some s.modeRead, value := some s.keepMode.valueRead, phase := .wAck
      bus := .writing s.addr (packFast s.modeRead s.keepMode.valueRead)
      outputs := .busWrite s.addr (packFast s.modeRead s.keepMode.valueRead) :: s.outputs
      draws := s.keepMode.keepValue.draws } := by
  cases hm : s.mode <;> cases hv : s.value <;>
    simp_all [State.wrDac, State.keepMode, State.keepValue, State.modeRead, State.valueRead,
      State.issueWrite]

/-- What a write leaves on the bus is an answer. -/
theorem State.serveWrite_bus (a : Addr) (f : Frame) (s : State) :
    (∃ k, (s.serveWrite a f).bus = .wrRsp k) ∨ (∃ r, (s.serveWrite a f).bus = .rdRsp r) := by
  unfold State.serveWrite
  split
  · exact .inl ⟨_, rfl⟩
  · rename_i x xs _
    cases x
    · exact .inl ⟨_, rfl⟩
    · exact .inr ⟨_, rfl⟩
  · exact .inl ⟨_, rfl⟩

/-- What a read leaves on the bus is an answer. -/
theorem State.serveRead_bus (a : Addr) (s : State) :
    (∃ k, (s.serveRead a).bus = .wrRsp k) ∨ (∃ r, (s.serveRead a).bus = .rdRsp r) := by
  unfold State.serveRead
  split
  · exact .inr ⟨_, rfl⟩
  · rename_i x xs _
    cases x
    · exact .inl ⟨_, rfl⟩
    · exact .inr ⟨_, rfl⟩
  · exact .inr ⟨_, rfl⟩

/-- Everything a step that runs no instruction can do. -/
theorem State.otherStep_eq_next (h : s.otherStep = .next t) :
    (s.bus = .quiet ∧ t = s) ∨ (∃ a f, s.bus = .writing a f ∧ t = s.serveWrite a f) ∨
    (∃ a, s.bus = .reading a ∧ t = s.serveRead a) ∨ (∃ k, s.bus = .wrRsp k ∧ s.takeAck k = .next t) := by
  unfold State.otherStep at h
  split at h
  · cases h; simp_all
  · cases h; simp_all
  · cases h; simp_all
  · simp_all
  · unfold State.refuseFrame at h
    split at h <;> cases h

/-- Everything that can be due: a reset, an instruction, or a step that runs none. -/
theorem State.dueWith_eq_next {run : Instr → State → Result} (h : s.dueWith run = .next t) :
    (∃ a, s.resetReq = some a ∧ t = s.resetBlock a) ∨
    (s.resetReq = none ∧ ∃ i, s.fetch = some i ∧ run i s = .next t) ∨
    (s.resetReq = none ∧ s.fetch = none ∧ s.otherStep = .next t) := by
  unfold State.dueWith at h
  split at h
  · cases h; simp_all
  · split at h <;> simp_all

/-- The devices' own steps are no event for the block: the same instruction is next. -/
@[simp] theorem State.settleDevices_fetch : s.settleDevices.fetch = s.fetch := by
  simp [State.fetch, State.busCode, State.portRequest, State.target]

/-- No device is on an unconstrained bus, so none takes a step. -/
theorem State.settleDevices_of_answers {as : List Answer} (h : s.env = .answers as) :
    s.settleDevices = s := by
  simp [State.settleDevices, h]

/-- Every device on the bus takes its own step or not. -/
theorem State.settleDevices_of_devices {ds : List Device} (h : s.env = .devices ds) :
    s.settleDevices =
      { s with env := .devices (ds.map (Device.settle s.draws)), draws := s.draws + 1 } := by
  simp [State.settleDevices, h]

/-- Everything a step can do: the devices' own steps, then a reset, an instruction, or a step that runs
none. -/
theorem State.stepWith_eq_next {run : Instr → State → Result} (h : s.stepWith run = .next t) :
    (∃ a, s.resetReq = some a ∧ t = s.settleDevices.resetBlock a) ∨
    (s.resetReq = none ∧ ∃ i, s.fetch = some i ∧ run i s.settleDevices = .next t) ∨
    (s.resetReq = none ∧ s.fetch = none ∧ s.settleDevices.otherStep = .next t) := by
  simpa using State.dueWith_eq_next h

/-- A device's own step: its write in progress goes on or ends, and nothing else it holds changes. -/
theorem Device.settle_cases (n : Nat) (d : Device) :
    d.settle n = { d with busyEnds := d.busyEnds.tail } ∨
    (d.busy = true ∧ d.settle n = { d with busy := false, busyEnds := d.busyEnds.tail }) := by
  unfold Device.settle
  cases d.busy <;> cases d.endsNow n <;> simp

/-- What a device keeps through its own step. -/
@[simp] theorem Device.settle_devAddr (n : Nat) (d : Device) : (d.settle n).devAddr = d.devAddr := rfl
@[simp] theorem Device.settle_present (n : Nat) (d : Device) : (d.settle n).present = d.present := rfl
@[simp] theorem Device.settle_dmode (n : Nat) (d : Device) : (d.settle n).dmode = d.dmode := rfl
@[simp] theorem Device.settle_dval (n : Nat) (d : Device) : (d.settle n).dval = d.dval := rfl
@[simp] theorem Device.settle_emode (n : Nat) (d : Device) : (d.settle n).emode = d.emode := rfl
@[simp] theorem Device.settle_eval (n : Nat) (d : Device) : (d.settle n).eval = d.eval := rfl

/-- A device that is not busy stays so through its own step. -/
theorem Device.settle_busy_of_not (n : Nat) (d : Device) (h : d.busy = false) :
    (d.settle n).busy = false := by simp [Device.settle, h]

end Sys2Proof.Machine
end

