-- ==== Sys2Proof/Laws/PerInstr.lean ====
section
/-! SUPPORT. Statements about every instruction as syntax, one lemma per constructor. -/

namespace Sys2Proof.Laws

open Sys2Proof Sys2Proof.Machine

/-- Width, mask and pattern of an instruction's row of spec/opcode_table.json. RESERVED_RSV and
FRAME_STATUS have no fixed bit. -/
def tableRow (i : Instr) : Nat × Nat × Nat :=
  match i with
  | .probe => (24, 0xFC0000, 0x000000)
  | .gcreset => (24, 0xFC0000, 0x100000)
  | .gcwake => (24, 0xFC0000, 0x200000)
  | .getmode => (24, 0xFC0000, 0x300000)
  | .setmode _ => (24, 0xFC0000, 0x400000)
  | .rdval => (24, 0xFC0000, 0x500000)
  | .wru12 _ => (24, 0xFC0000, 0x600000)
  | .rdeeprom => (24, 0xFC0000, 0x700000)
  | .wreeprom _ _ => (24, 0xFC0000, 0x800000)
  | .reserved9 => (24, 0xF00000, 0x900000)
  | .reservedA => (24, 0xF00000, 0xA00000)
  | .reservedB => (24, 0xF00000, 0xB00000)
  | .reservedC => (24, 0xF00000, 0xC00000)
  | .reservedD => (24, 0xF00000, 0xD00000)
  | .reservedE => (24, 0xF00000, 0xE00000)
  | .reservedF => (24, 0xF00000, 0xF00000)
  | .reservedRsv _ _ _ _ => (24, 0, 0)
  | .write _ => (24, 0xFFF000, 0x600000)
  | .read => (24, 0xFFFFFF, 0x500000)
  | .frameGcReset => (8, 0xFF, 0x06)
  | .frameGcWake => (8, 0xFF, 0x09)
  | .frameFastwr _ _ => (16, 0xC000, 0x0000)
  | .frameEewr _ _ => (24, 0xF9000F, 0x600000)
  | .frameStatus _ => (40, 0, 0)

/-- The code of a well-formed instruction has the width of its table row and the row's fixed bits. -/
def TableRow.Statement (i : Instr) : Prop :=
  WellFormed i → codeWidth (encode i) = (tableRow i).1 ∧
    codeNumber (encode i) &&& (tableRow i).2.1 = (tableRow i).2.2

/-- A mask of a 24-bit number is a mask of its bits. -/
theorem command_mask {cw mask row : CmdWord} (h : cw &&& mask = row) :
    codeNumber (.command cw) &&& mask.toNat = row.toNat := by
  rw [← h]; simp [codeNumber]

theorem TableRow.probe : TableRow.Statement .probe := fun _ => by decide
theorem TableRow.gcreset : TableRow.Statement .gcreset := fun _ => by decide
theorem TableRow.gcwake : TableRow.Statement .gcwake := fun _ => by decide
theorem TableRow.getmode : TableRow.Statement .getmode := fun _ => by decide
theorem TableRow.setmode (m : PowerMode) : TableRow.Statement (.setmode m) :=
  fun _ => ⟨rfl, command_mask (packCommand_and_mask 4 0 m 0)⟩
theorem TableRow.rdval : TableRow.Statement .rdval := fun _ => by decide
theorem TableRow.wru12 (v : BitVec 16) : TableRow.Statement (.wru12 v) :=
  fun _ => ⟨rfl, command_mask (packCommand_and_mask 6 0 0 v)⟩
theorem TableRow.rdeeprom : TableRow.Statement .rdeeprom := fun _ => by decide
theorem TableRow.wreeprom (m : PowerMode) (v : BitVec 16) : TableRow.Statement (.wreeprom m v) :=
  fun _ => ⟨rfl, command_mask (packCommand_and_mask 8 0 m v)⟩
theorem TableRow.reserved9 : TableRow.Statement .reserved9 := fun _ => by decide
theorem TableRow.reservedA : TableRow.Statement .reservedA := fun _ => by decide
theorem TableRow.reservedB : TableRow.Statement .reservedB := fun _ => by decide
theorem TableRow.reservedC : TableRow.Statement .reservedC := fun _ => by decide
theorem TableRow.reservedD : TableRow.Statement .reservedD := fun _ => by decide
theorem TableRow.reservedE : TableRow.Statement .reservedE := fun _ => by decide
theorem TableRow.reservedF : TableRow.Statement .reservedF := fun _ => by decide
theorem TableRow.reservedRsv (op : BitVec 4) (rsv : BitVec 2) (m : PowerMode) (v : BitVec 16) :
    TableRow.Statement (.reservedRsv op rsv m v) := fun _ => ⟨rfl, Nat.and_zero _⟩
theorem TableRow.write (v : NormNum) : TableRow.Statement (.write v) :=
  fun _ => ⟨rfl, command_mask (packCommand_zext16_and 6 0 0 (normToU12 v))⟩
theorem TableRow.read : TableRow.Statement .read := fun _ => by decide
theorem TableRow.frameGcReset : TableRow.Statement .frameGcReset := fun _ => by decide
theorem TableRow.frameGcWake : TableRow.Statement .frameGcWake := fun _ => by decide
theorem TableRow.frameFastwr (m : PowerMode) (v : DacValue) :
    TableRow.Statement (.frameFastwr m v) := fun _ => ⟨rfl, packFast_and_mask m v⟩
theorem TableRow.frameEewr (m : PowerMode) (v : DacValue) :
    TableRow.Statement (.frameEewr m v) := fun _ => ⟨rfl, packEewr_and_mask m v⟩
theorem TableRow.frameStatus (f : StatusFrame) : TableRow.Statement (.frameStatus f) :=
  fun _ => ⟨rfl, Nat.and_zero _⟩

end Sys2Proof.Laws
end

