-- ==== Sys2Proof/Machine/Assembler.lean ====
section
/-! DEFINITION. The textual syntax of the nine commands (30_encoding.md R94), the spec's own: one command
a line, as a list of characters. What R94 leaves open (white space, case, leading zeros) is in log
entry 19. -/

namespace Sys2Proof.Machine

/-- White space between the parts of a line (log entry 19). -/
def isBlank (c : Char) : Bool := c == ' ' || c == '\t'

/-- The line without its comment (30_encoding.md R94). -/
def stripComment (line : List Char) : List Char := line.takeWhile (· != ';')

/-- A text without blanks at either end. -/
def trimBlanks (t : List Char) : List Char :=
  ((t.dropWhile isBlank).reverse.dropWhile isBlank).reverse

/-- The pieces of a text between commas. -/
def splitCommas (t : List Char) : List (List Char) :=
  t.foldr (fun c ps =>
    match c == ',', ps with
    | true, _ => [] :: ps
    | false, p :: rest => (c :: p) :: rest
    | false, [] => [[c]]) [[]]

/-- The value of a digit in a base of at most 16. -/
def digitValue (base : Nat) (c : Char) : Option Nat :=
  let n := c.toNat
  let d :=
    if 48 ≤ n ∧ n ≤ 57 then some (n - 48)
    else if 65 ≤ n ∧ n ≤ 70 then some (n - 55)
    else if 97 ≤ n ∧ n ≤ 102 then some (n - 87)
    else none
  d.filter (· < base)

/-- A nonempty text of digits, read left to right. -/
def readDigits (base : Nat) (t : List Char) : Option Nat :=
  match t with
  | [] => none
  | _ => t.foldl (fun n c => do return (← n) * base + (← digitValue base c)) (some 0)

/-- A number, decimal or `0x` hexadecimal (30_encoding.md R94). -/
def readNumber (t : List Char) : Option Nat :=
  match t with
  | '0' :: 'x' :: rest => readDigits 16 rest
  | _ => readDigits 10 t

/-- The names of the four power modes (10_state.md R21, 30_encoding.md R94). -/
def modeNames : List (List Char × PowerMode) :=
  [ (['N', 'o', 'r', 'm', 'a', 'l'], PowerMode.normal),
    (['S', 'h', 'u', 't', 'd', 'o', 'w', 'n', 'P', 'u', 'l', 'l', 'D', 'o', 'w', 'n', '1', 'k'],
      PowerMode.shutdownPullDown1k),
    (['S', 'h', 'u', 't', 'd', 'o', 'w', 'n', 'P', 'u', 'l', 'l', 'D', 'o', 'w', 'n', '1', '0', '0', 'k'],
      PowerMode.shutdownPullDown100k),
    (['S', 'h', 'u', 't', 'd', 'o', 'w', 'n', 'P', 'u', 'l', 'l', 'D', 'o', 'w', 'n', '5', '0', '0', 'k'],
      PowerMode.shutdownPullDown500k) ]

/-- A mode operand: a number 0 to 3 or a name (30_encoding.md R94). DESIGN CHOICE: R94 names the bases of
value operands only; a mode is read in the same two, decimal and `0x` hexadecimal (log entry 19). -/
def readMode (t : List Char) : Option PowerMode :=
  match modeNames.lookup t with
  | some m => some m
  | none => ((readNumber t).filter (· < 4)).map (BitVec.ofNat 2)

/-- A value operand: a number 0 to 65535 (30_encoding.md R94). -/
def readValue (t : List Char) : Option (BitVec 16) :=
  ((readNumber t).filter (· < 65536)).map (BitVec.ofNat 16)

/-- Which operands follow a mnemonic: none, a mode, a value, or a mode and a value (30_encoding.md R72). -/
inductive OperandShape where
  | none | mode | value | modeValue
  deriving DecidableEq, Repr

/-- The mnemonics of R72 with their opcodes and operands. -/
def mnemonics : List (List Char × BitVec 4 × OperandShape) :=
  [ (['P', 'R', 'O', 'B', 'E'], 0x0, .none),
    (['G', 'C', 'R', 'E', 'S', 'E', 'T'], 0x1, .none),
    (['G', 'C', 'W', 'A', 'K', 'E'], 0x2, .none),
    (['G', 'E', 'T', 'M', 'O', 'D', 'E'], 0x3, .none),
    (['S', 'E', 'T', 'M', 'O', 'D', 'E'], 0x4, .mode),
    (['R', 'D', 'V', 'A', 'L'], 0x5, .none),
    (['W', 'R', 'U', '1', '2'], 0x6, .value),
    (['R', 'D', 'E', 'E', 'P', 'R', 'O', 'M'], 0x7, .none),
    (['W', 'R', 'E', 'E', 'P', 'R', 'O', 'M'], 0x8, .modeValue) ]

/-- The command word of a mnemonic's opcode and its operands; unused fields are zero (30_encoding.md R94). -/
def assembleOperands (op : BitVec 4) (shape : OperandShape) (operands : List (List Char)) :
    Option CmdWord :=
  match shape, operands with
  | .none, [[]] => some (packCommand op 0 0 0)
  | .mode, [m] => do return packCommand op 0 (← readMode m) 0
  | .value, [v] => do return packCommand op 0 0 (← readValue v)
  | .modeValue, [m, v] => do return packCommand op 0 (← readMode m) (← readValue v)
  | _, _ => none

/-- One line of text as a command word (30_encoding.md R94). -/
def assemble (line : List Char) : Option CmdWord :=
  let text := trimBlanks (stripComment line)
  match mnemonics.lookup (text.takeWhile (fun c => !isBlank c)) with
  | none => none
  | some (op, shape) =>
    assembleOperands op shape
      ((splitCommas (text.dropWhile (fun c => !isBlank c))).map trimBlanks)

end Sys2Proof.Machine
end

