-- ==== Sys2Proof/Tests/Slice0.lean ====
section
/-! SUPPORT. Tests with expected results from the spec (95_test_vectors.md and the examples of the command
rules), each about one function or one step; after them one witness for each statement that has hypotheses. -/

open Sys2Proof Sys2Proof.Machine

namespace Sys2Proof.Tests

/-! ### Small states -/

/-- Parameters with every OPEN Boolean false. -/
def params (limit : Option Nat) (update : Bool) : Params where
  addrSet := [0xC0, 0xC2, 0xC4, 0xC6, 0xC8, 0xCA, 0xCC, 0xCE]
  pollLimit := limit
  cacheReset := none
  wreepromUpdatesCache := update
  devEewrUpdatesDacreg := true
  devIgnoresWritesWhenBusy := true

/-- An idle block at 0xC0 with a cache. -/
def idle (m : Option PowerMode) (v : Option DacValue) (host : List Request) (env : Env) : State :=
  { State.construct (params none false) 0xC0 with mode := m, value := v, host := host, env := env }

/-- An idle block with cache (1, 0x111) and the words of a host. -/
def hosted (cws : List CmdWord) (env : Env) : State := idle (some 1) (some 0x111) (cws.map .word) env

/-- A block waiting in a phase with something on the bus; WREEPROM's latches hold (3, 0xABC). -/
def waiting (limit : Option Nat) (update : Bool) (p : Phase) (c : Command) (b : Bus) : State :=
  { State.construct (params limit update) 0xC0 with
    mode := some 1, value := some 0x111, phase := p, cur := c, lm := 3, lv := 0xABC, bus := b }

/-- A device whose next choice is to become ready if it is busy. -/
def device (busy : Bool) : Device where
  devAddr := 0xC0
  present := true
  dmode := 1
  dval := 0x123
  emode := 2
  eval := 0x800
  busy := busy
  busyEnds := [true]
  xbits := [⟨0x40, 0, 0, 0, 0⟩]

/-- The state after a step that has one. -/
def after (r : Result) : Option State :=
  match r with
  | .next t => some t
  | .fault _ | .refused _ => none

/-- What a step put out, the phase and the cache it left. -/
def summary (r : Result) : Option (List Output × Phase × Option PowerMode × Option DacValue) :=
  (after r).map fun t => (t.outputs, t.phase, t.mode, t.value)

/-! ### Well-formedness -/

theorem test_rsv_zero_is_no_reservedRsv : ¬ WellFormed (.reservedRsv 6 0 0 0x0ABC) := by decide
theorem test_rsv_one_is_reservedRsv : WellFormed (.reservedRsv 6 1 0 0x0ABC) := by decide

/-! ### Decoding, each word written out from its encoding (30_encoding.md; 95_test_vectors.md 2.1) -/

theorem test_decode_probe : decodeCommand 0b000000111111111111111111 = .probe := by decide
theorem test_decode_gcreset : decodeCommand 0b000100000000000000000000 = .gcreset := by decide
theorem test_decode_gcwake : decodeCommand 0b001000000000000000000000 = .gcwake := by decide
theorem test_decode_getmode : decodeCommand 0b001100000000000000000000 = .getmode := by decide
theorem test_decode_setmode : decodeCommand 0b010000101111111111111111 = .setmode 2 := by decide
theorem test_decode_rdval : decodeCommand 0b010100000000000000000000 = .rdval := by decide
theorem test_decode_wru12 : decodeCommand 0b011000110001101010111100 = .wru12 0x1ABC := by decide
theorem test_decode_rdeeprom : decodeCommand 0b011100000000000000000000 = .rdeeprom := by decide
theorem test_decode_wreeprom : decodeCommand 0b100000011111000000001111 = .wreeprom 1 0xF00F := by decide
theorem test_decode_reserved9 : decodeCommand 0b100100000000000000000000 = .reserved9 := by decide
theorem test_decode_reservedA : decodeCommand 0b101000000000000000000000 = .reservedA := by decide
theorem test_decode_reservedB : decodeCommand 0b101100000000000000000000 = .reservedB := by decide
theorem test_decode_reservedC : decodeCommand 0b110000000000000000000000 = .reservedC := by decide
theorem test_decode_reservedD : decodeCommand 0b110100000000000000000000 = .reservedD := by decide
theorem test_decode_reservedE : decodeCommand 0b111000000000000000000000 = .reservedE := by decide
theorem test_decode_reservedF : decodeCommand 0b111100000000000000000000 = .reservedF := by decide
theorem test_decode_reservedRsv :
    decodeCommand 0b011001000000101010111100 = .reservedRsv 6 1 0 0x0ABC ∧
    decodeCommand 0xFFFFFF = .reservedRsv 15 3 3 0xFFFF ∧
    decodeCommand 0x040000 = .reservedRsv 0 1 0 0 := by decide
theorem test_decode_write :
    decodeCommand 0b011000000000011111111111 = expand (.write (1 / 2)) := by decide +kernel
theorem test_decode_read : decodeCommand 0b010100000000000000000000 = expand .read := by decide
theorem test_decode_frameGcReset : decode (.down .general [0b00000110]) = .ok .frameGcReset := by decide
theorem test_decode_frameGcWake : decode (.down .general [0b00001001]) = .ok .frameGcWake := by decide
theorem test_decode_frameFastwr :
    decode (.down .device [0b00011010, 0b10111100]) = .ok (.frameFastwr 1 0xABC) := by decide
theorem test_decode_frameEewr :
    decode (.down .device [0b01100110, 0b10101011, 0b11000000]) = .ok (.frameEewr 3 0xABC) := by decide
theorem test_decode_frameStatus :
    decode (.up [0b11000000, 0x12, 0x30, 0x45, 0x67]) =
      .ok (.frameStatus ⟨0xC0, 0x12, 0x30, 0x45, 0x67⟩) := by decide
theorem test_decode_rejects_by_name :
    decode (.down .general [0x07]) = .error .unknownGeneralCall ∧
    decode (.down .device []) = .error .probeFrame ∧
    decode (.down .device [0x40, 0x00]) = .error .notFastWrite ∧
    decode (.down .device [0x66, 0xAB, 0xC1]) = .error .notEepromWrite ∧
    decode (.down .device [0x00]) = .error .badWriteLength ∧
    decode (.up [0xC0, 0, 0, 0]) = .error .badReadLength := by decide
theorem test_table_words :
    decodeTableWord 24 0x420000 = some (.setmode 2) ∧ decodeTableWord 8 0x09 = some .frameGcWake ∧
    decodeTableWord 16 0x1ABC = some (.frameFastwr 1 0xABC) ∧
    decodeTableWord 40 0xC012304567 = some (.frameStatus ⟨0xC0, 0x12, 0x30, 0x45, 0x67⟩) ∧
    decodeTableWord 12 0 = none := by decide

/-! ### Packing and unpacking (95_test_vectors.md 2.2, 2.4) -/

theorem test_pack_fast :
    packFast 1 0xABC = [0x1A, 0xBC] ∧ packFast 3 0x001 = [0x30, 0x01] ∧
    packFast 2 0x100 = [0x21, 0x00] ∧ packFast 0 0x7FF = [0x07, 0xFF] := by decide
theorem test_pack_eewr :
    packEewr 1 0xABC = [0x62, 0xAB, 0xC0] ∧ packEewr 3 0x001 = [0x66, 0x00, 0x10] ∧
    packEewr 2 0x800 = [0x64, 0x80, 0x00] ∧ packEewr 1 0x00F = [0x62, 0x00, 0xF0] := by decide
theorem test_unpack_dac :
    unpackDac ⟨0x7F, 0x55, 0xAA, 0xB5, 0x5A⟩ = (3, 0x55A) ∧
    unpackDac ⟨0xE0, 0, 0, 0, 0⟩ = (0, 0) ∧ unpackDac ⟨0x79, 0x00, 0x0F, 0x90, 0x00⟩ = (0, 0) := by decide
theorem test_unpack_eeprom :
    unpackEeprom ⟨0x7F, 0x55, 0xAA, 0xB5, 0x5A⟩ = (1, 0x55A) ∧
    unpackEeprom ⟨0x06, 0x12, 0x34, 0x65, 0x43⟩ = (3, 0x543) ∧
    rdy ⟨0x7F, 0x55, 0xAA, 0xB5, 0x5A⟩ = false ∧ rdy ⟨0x80, 0, 0, 0, 0⟩ = true := by decide
theorem test_response_words :
    packResponse { status := .ok, ack := true } = 0x080000 ∧
    packResponse { status := .ok, mode := 2, value := 0x567 } = 0x020567 ∧
    packResponse { status := .illegal } = 0x100000 ∧
    packResponse { status := .timeout } = 0x200000 := by decide
theorem test_norm_to_u12 :
    normToU12 (-1 / 4) = 0 ∧ normToU12 (3 / 2) = 4095 ∧ normToU12 (3 / 4) = 3071 ∧
    normToU12 (1 / 4096) = 0 ∧ normToU12 (8189 / 8190) = 4094 ∧ normToU12 (2 / 3) = 2730 := by
  decide +kernel
theorem test_u12_to_norm :
    u12ToNorm 0xFFF = 1 ∧ u12ToNorm 0x7FF = 2047 / 4095 ∧ u12ToNorm 0x555 = 1 / 3 := by decide +kernel
theorem test_assembler :
    assemble "PROBE".toList = some 0x000000 ∧ assemble "SETMODE 2".toList = some 0x420000 ∧
    assemble "WRU12 0x0ABC  ; a comment".toList = some 0x600ABC ∧
    assemble "WREEPROM 3, 0x0ABC".toList = some 0x830ABC ∧
    assemble "SETMODE ShutdownPullDown100k".toList = some 0x420000 ∧
    assemble "SETMODE 4".toList = none ∧ assemble "WRU12 65536".toList = none := by decide +kernel

/-! ### Single steps (95_test_vectors.md 2.3, 2.6, 2.7, 2.8) -/

theorem test_probe : summary (exec .probe (idle none none [] (.answers []))) =
    some ([.busWrite 0xC0 []], .wAck, none, none) := by decide
theorem test_gcreset : summary (exec .gcreset (idle none none [] (.answers []))) =
    some ([.busWrite 0x00 [0x06]], .wAck, none, none) := by decide
theorem test_gcwake : summary (exec .gcwake (idle (some 2) (some 0x800) [] (.answers []))) =
    some ([.busWrite 0x00 [0x09]], .wAck, some 2, some 0x800) := by decide
theorem test_getmode : summary (exec .getmode (idle none none [] (.answers []))) =
    some ([.busRead 0xC0 5], .wDac, none, none) := by decide
theorem test_setmode_V20 : summary (exec (.setmode 2) (idle (some 0) (some 0x800) [] (.answers []))) =
    some ([.busWrite 0xC0 [0x28, 0x00]], .wAck, some 2, some 0x800) := by decide
theorem test_rdval : summary (exec .rdval (idle none none [] (.answers []))) =
    some ([.busRead 0xC0 5], .wDac, none, none) := by decide
theorem test_wru12_V33 : summary (exec (.wru12 0x1000) (idle (some 0) (some 0x123) [] (.answers []))) =
    some ([.busWrite 0xC0 [0x00, 0x00]], .wAck, some 0, some 0x000) := by decide
theorem test_wru12_V35 : summary (exec (.wru12 0x1ABC) (idle (some 1) (some 0) [] (.answers []))) =
    some ([.busWrite 0xC0 [0x1A, 0xBC]], .wAck, some 1, some 0xABC) := by decide
theorem test_rdeeprom : summary (exec .rdeeprom (hosted [] (.answers []))) =
    some ([.busRead 0xC0 5], .wPoll, some 1, some 0x111) := by decide
theorem test_wreeprom_V49 :
    (after (exec (.wreeprom 1 0xF00F) (hosted [] (.answers [])))).map (fun t => (t.outputs, t.lm, t.lv)) =
      some ([.busRead 0xC0 5], 1, 0x00F) := by decide
theorem test_reserved : ∀ i ∈ [Instr.reserved9, .reservedA, .reservedB, .reservedC, .reservedD,
    .reservedE, .reservedF, .reservedRsv 6 1 0 0x0ABC],
    summary (exec i (hosted [] (.answers []))) =
      some ([.done { status := .illegal } none], .idle, some 1, some 0x111) := by decide
theorem test_write_V64 : summary (exec (.write (1 / 2)) (idle (some 0) none [] (.answers []))) =
    some ([.busWrite 0xC0 [0x07, 0xFF]], .wAck, some 0, some 0x7FF) := by decide +kernel
theorem test_read_V82 : (after (exec (.frameStatus ⟨0xC0, 0x7F, 0xF0, 0, 0⟩)
    { waiting none false .wDac .rdval .quiet with viaRead := true })).map (·.outputs) =
    some [.done { status := .ok, value := 0x7FF } (some (2047 / 4095))] := by decide +kernel
theorem test_frameGcReset :
    (after (exec .frameGcReset (hosted [] (.devices [device false])))).map (·.env) =
      some (.devices [{ device false with dmode := 2, dval := 0x800 }]) := by decide
theorem test_frameGcWake :
    (after (exec .frameGcWake (hosted [] (.devices [device true])))).map (·.env) =
      some (.devices [{ device true with dmode := 0 }]) := by decide
theorem test_frameFastwr :
    (after (exec (.frameFastwr 3 0xABC) (hosted [] (.devices [device false])))).map (fun t => (t.env, t.bus)) =
      some (.devices [{ device false with dmode := 3, dval := 0xABC }], .wrRsp true) := by decide
theorem test_frameFastwr_at_a_busy_device :
    (after (exec (.frameFastwr 3 0xABC) (hosted [] (.devices [device true])))).map (fun t => (t.env, t.bus)) =
      some (.devices [device true], .wrRsp true) := by decide
theorem test_frameEewr :
    (after (exec (.frameEewr 3 0xABC) (hosted [] (.devices [device false])))).map (·.env) =
      some (.devices [{ device false with
        emode := 3, eval := 0xABC, dmode := 3, dval := 0xABC, busy := true }]) := by decide
theorem test_frameStatus_V12 :
    summary (exec (.frameStatus ⟨0x46, 0xFF, 0xF0, 0, 0⟩) (waiting none false .wDac .getmode .quiet)) =
      some ([.done { status := .ok, mode := 3 } none], .idle, some 3, some 0xFFF) := by decide
theorem test_frameStatus_V42 :
    summary (exec (.frameStatus ⟨0x80, 0xFF, 0xF0, 0xFF, 0xFF⟩) (waiting none false .wPoll .rdeeprom .quiet)) =
      some ([.done { status := .ok, mode := 3, value := 0xFFF } none], .idle, some 1, some 0x111) := by decide
theorem test_status_frame_of_the_device :
    (device true).status ⟨0x40, 0, 0, 0, 0⟩ = ⟨0x42, 0x12, 0x30, 0x48, 0x00⟩ := by decide
theorem test_poll_limit_V46 :
    summary (exec (.frameStatus ⟨0, 0, 0, 0, 0⟩) (waiting (some 1) true .wPoll .wreeprom .quiet)) =
      some ([.done { status := .timeout } none], .idle, some 1, some 0x111) := by decide
theorem test_eeprom_write_V47 :
    summary (exec (.frameStatus ⟨0x80, 0, 0, 0, 0⟩) (waiting none true .wPoll .wreeprom .quiet)) =
      some ([.busWrite 0xC0 [0x66, 0xAB, 0xC0]], .wAck, some 3, some 0xABC) := by decide
theorem test_device_becomes_ready_on_a_quiet_bus :
    (after (step (hosted [] (.devices [device true])))).map (·.env) =
      some (.devices [{ device false with busyEnds := [] }]) := by decide
theorem test_device_stays_busy_before_an_acceptance :
    (after (step (hosted [0x300000] (.devices [{ device true with busyEnds := [false] }])))).map (·.env) =
      some (.devices [{ device true with busyEnds := [] }]) := by decide
theorem test_unwritten_cache_P2d :
    (after (exec (.wru12 0x0123) (idle none none [] (.answers [])))).map (·.value) = some (some 0x123) := by
  decide

/-! ### Witnesses: states and operands that meet the hypotheses of the statements -/

theorem test_witness_DecodeOfEncode : WellFormed (.reservedRsv 0 3 0 0) ∧ WellFormed (.write (1 / 2)) := by
  decide
theorem test_witness_PlacedTableWord :
    WellFormed (.wru12 0xFFFF) ∧ (∀ m v, Instr.wru12 0xFFFF ≠ .frameEewr m v) ∧
      (hosted [] (.answers [])).addr ≠ Config.broadcast :=
  ⟨rfl, (by intro m v h; cases h), by decide⟩
theorem test_witness_CommandRows :
    (9 ≤ cwOp 0x900000 ∧ cwRsv 0x900000 = 0#2) ∧ 9 ≤ cwOp 0xF00000 ∧ cwRsv 0xF00000 = 0#2 := by decide
theorem test_witness_UnusedFields :
    (cwRsv 0x700000 = 0#2 ∧ cwRsv 0x73FFFF = 0#2 ∧ cwOp 0x700000 = cwOp 0x73FFFF ∧ cwOp 0x700000 ≤ 8 ∧
      cwOp 0x700000 ≠ 4 ∧ cwOp 0x700000 ≠ 6 ∧ cwOp 0x700000 ≠ 8) ∧
    (cwRsv 0x400000 = 0#2 ∧ cwRsv 0x40FFFF = 0#2 ∧ cwOp 0x400000 = cwOp 0x40FFFF ∧ cwOp 0x400000 = 4 ∧
      cwMode 0x400000 = cwMode 0x40FFFF) ∧
    (cwRsv 0x60FFFF = 0#2 ∧ cwRsv 0x63FFFF = 0#2 ∧ cwOp 0x60FFFF = cwOp 0x63FFFF ∧ cwOp 0x60FFFF = 6 ∧
      cwValue 0x60FFFF = cwValue 0x63FFFF) := by decide
theorem test_witness_FastWriteFrame :
    (0x3F : Byte) ∈ (packFast 3 0xFFF).head? ∧ (0xFF : Byte) ∈ (packFast 3 0xFFF)[1]? := by decide
theorem test_witness_EepromWriteFrame :
    (0x66 : Byte) ∈ (packEewr 3 0xFFF).head? ∧ (0xFF : Byte) ∈ (packEewr 3 0xFFF)[1]? ∧
      (0xF0 : Byte) ∈ (packEewr 3 0xFFF)[2]? := by decide
theorem test_witness_UnnamedBits :
    (0x00 : Byte) ∈ (packFast 0 0).head? ∧ (0x60 : Byte) ∈ (packEewr 0 0).head? ∧
      (0x00 : Byte) ∈ (packEewr 0 0)[2]? ∧
      (0x79 &&& 0x86 : Byte) = 0x00 &&& 0x86 ∧ (0x0F &&& 0xF0 : Byte) = 0x00 &&& 0xF0 ∧
      (0x90 &&& 0x6F : Byte) = 0x00 &&& 0x6F := by decide
theorem test_witness_ResponseWord :
    packResponse { status := .ok, ack := true } = packResponse { status := .ok, ack := true } := rfl
theorem test_witness_NormToU12 :
    (-1 / 4 : NormNum) < 0 ∧ (1 : NormNum) < 3 / 2 ∧ ((0 : NormNum) ≤ 0 ∧ (0 : NormNum) ≤ 1) ∧
      ((0 : NormNum) ≤ 1 ∧ (1 : NormNum) ≤ 1) ∧ 4095 ≤ 4095 := by decide +kernel
theorem test_witness_NormalizedConversions : (-1 : NormNum) ≤ 2 := by decide +kernel
theorem test_witness_Acceptance :
    (hosted [] (.answers [])).phase = .idle ∧ (hosted [] (.answers [])).mode = some 1 ∧
      (hosted [] (.answers [])).value = some 0x111 := by decide
theorem test_witness_UnwrittenCache :
    (idle none none [] (.answers [])).phase = .idle ∧ (idle none none [] (.answers [])).mode = none ∧
      (idle none none [] (.answers [])).value = none := by decide
theorem test_witness_IllegalWords :
    (cwRsv 0x040000 ≠ 0#2 ∨ 9 ≤ cwOp 0x040000) ∧ (cwRsv 0x900000 ≠ 0#2 ∨ 9 ≤ cwOp 0x900000) ∧
      (hosted [] (.answers [])).phase = .idle := by decide
theorem test_witness_AckEndsTheCommand :
    ∀ c ∈ [Command.probe, .wreeprom], (waiting none false .wAck c (.wrRsp false)).resetReq = none ∧
      (waiting none false .wAck c (.wrRsp false)).phase = .wAck ∧
      (waiting none false .wAck c (.wrRsp false)).bus = .wrRsp false ∧
      (waiting none false .wAck c (.wrRsp false)).cur ∈
        [Command.probe, .gcreset, .gcwake, .setmode, .wru12, .wreeprom] := by decide
theorem test_witness_StatusFrameLoadsTheCache :
    (waiting none false .wDac .getmode .quiet).phase = .wDac ∧
    (waiting none false .wDac .getmode .quiet).cur = .getmode ∧
    (waiting none false .wDac .rdval .quiet).cur = .rdval ∧
    (waiting none false .wDac .rdval .quiet).viaRead = false ∧
    { waiting none false .wDac .rdval .quiet with viaRead := true }.viaRead = true := by decide
theorem test_witness_PollingFollowsTheReadyBit :
    ((waiting (some 2) true .wPoll .wreeprom .quiet).phase = .wPoll ∧ (0x7F : Byte).getLsbD 7 = false ∧
      (waiting (some 2) true .wPoll .wreeprom .quiet).polls + 1 < 2) ∧
    ((waiting (some 1) true .wPoll .wreeprom .quiet).cfg.pollLimit = some 1 ∧
      1 ≤ (waiting (some 1) true .wPoll .wreeprom .quiet).polls + 1) ∧
    ((0x80 : Byte).getLsbD 7 = true ∧ (waiting none false .wPoll .rdeeprom .quiet).cur = .rdeeprom) ∧
    ((waiting none false .wPoll .wreeprom .quiet).cur = .wreeprom ∧
      (waiting none false .wPoll .wreeprom .quiet).cfg.wreepromUpdatesCache = false ∧
      (waiting none true .wPoll .wreeprom .quiet).cfg.wreepromUpdatesCache = true) := by decide
theorem test_witness_FramesAtDevices :
    (hosted [] (.devices [device true, device false])).env = .devices [device true, device false] ∧
      (hosted [] (.devices [device true, device false])).addr ≠ Config.broadcast := by decide
theorem test_witness_OtherEnvironments :
    (hosted [] (.answers [])).env = .answers [] ∧
    (hosted [] (.answers [.ack false])).env = .answers (.ack false :: []) ∧
    (hosted [] (.answers [.bytes [0xC0]])).env = .answers (.bytes [0xC0] :: []) := by decide
theorem test_witness_ReadsAreAnswered :
    { waiting none false .wDac .rdval (.reading 0xC0) with env := .devices [device true] }.resetReq = none ∧
    { waiting none false .wDac .rdval (.reading 0xC0) with env := .devices [device true] }.bus = .reading 0xC0 ∧
    { waiting none false .wDac .rdval (.reading 0xC0) with env := .devices [device true] }.settleDevices.env =
      .devices [{ device false with busyEnds := [] }] ∧
    [device false].find? (fun d => d.devAddr == 0xC0 && d.present) = some (device false) ∧
    [{ device true with present := false }].find? (fun d => d.devAddr == 0xC0 && d.present) = none ∧
    (waiting none false .wDac .rdval (.reading 0xC0)).settleDevices.env = .answers [] := by decide
theorem test_witness_ReferenceDevice :
    (device false).busy = false ∧ (device false).devAddr ≠ Config.broadcast := by decide
theorem test_witness_DeviceTakesGeneralCalls : (0x07 : Byte) ≠ 0x09 ∧ (0x07 : Byte) ≠ 0x06 := by decide
theorem test_witness_StepRunsTheDecodedInstruction :
    (hosted [0x000000] (.answers [])).Ready ∧ (idle none none [.write (1 / 2)] (.answers [])).Ready ∧
    (idle none none [.read] (.answers [])).Ready ∧
    decode (.down .general [0x06]) = .ok .frameGcReset ∧
    (waiting none false .wAck .gcreset (.writing 0x00 [0x06])).bus = .writing Config.broadcast [0x06] ∧
    (waiting none false .wAck .wru12 (.writing 0xC0 [0x3F, 0xFF])).bus = .writing 0xC0 [0x3F, 0xFF] ∧
    (waiting none false .wAck .wru12 (.writing 0xC0 [0x3F, 0xFF])).addr ≠ Config.broadcast ∧
    decode (.down .device [0x3F, 0xFF]) = .ok (.frameFastwr 3 0xFFF) ∧
    (waiting none false .wDac .rdval (.rdRsp [0, 0, 0, 0, 0])).bus = .rdRsp [0, 0, 0, 0, 0] ∧
    decode (.up [0, 0, 0, 0, 0]) = .ok (.frameStatus ⟨0, 0, 0, 0, 0⟩) :=
  ⟨⟨rfl, rfl, rfl⟩, ⟨rfl, rfl, rfl⟩, ⟨rfl, rfl, rfl⟩, by decide, by decide, by decide, by decide, by decide,
    by decide, by decide⟩
theorem test_witness_InputsOutsideTheProtocol :
    (waiting none false .wAck .probe (.writing 0xC0 [])).phase ≠ .idle ∧
    (after (step (waiting none false .wAck .probe (.wrRsp true)))).isSome = true ∧
    ((waiting none false .wDac .rdval (.wrRsp true)).bus = .wrRsp true ∧
      (waiting none false .wDac .rdval (.wrRsp true)).phase ≠ .wAck) ∧
    ((waiting none false .wAck .probe (.rdRsp [])).bus = .rdRsp [] ∧
      (waiting none false .wAck .probe (.rdRsp [])).phase ≠ .wDac ∧
      (waiting none false .wAck .probe (.rdRsp [])).phase ≠ .wPoll) ∧
    ((waiting none false .wPoll .rdeeprom (.rdRsp [0, 0, 0, 0])).phase = .wPoll ∧
      ([0, 0, 0, 0] : Frame).length ≠ 5 ∧ ([0, 0, 0, 0, 0, 0] : Frame).length ≠ 5) := by decide
theorem test_witness_HeldWordIsTaken :
    (hosted [0x100000] (.answers [])).Ready ∧
      (hosted [0x100000] (.answers [])).host = .word 0x100000 :: [] :=
  ⟨⟨rfl, rfl, rfl⟩, rfl⟩
theorem test_witness_AnOpenPortWaits :
    (hosted [] (.answers [])).Ready ∧ (hosted [] (.answers [])).host = [] := ⟨⟨rfl, rfl, rfl⟩, rfl⟩
theorem test_witness_Construction :
    (params none false).cacheReset = none ∧
      { params none false with cacheReset := some (0, 0) }.cacheReset = some (0, 0) := by decide
theorem test_witness_ResetEvent :
    { waiting none false .wAck .probe (.writing 0xC0 []) with resetReq := some 0xC2 }.resetReq = some 0xC2 ∧
    { hosted [] (.answers []) with resetReq := some 0xCE }.bus = .quiet := by decide

/-- A block that polls at an absent device meets the invariant. -/
theorem test_witness_Invariant : (waiting (some 1) false .wPoll .rdeeprom (.reading 0xC0)).Inv :=
  ⟨by decide, by decide, (by intro a h; cases h), by decide, rfl, by decide⟩
theorem test_witness_EveryStep :
    ∃ t, step (waiting (some 1) false .wPoll .rdeeprom (.reading 0xC0)) = .next t := ⟨_, rfl⟩
theorem test_witness_ContractKeepingRuns :
    (waiting (some 1) false .wPoll .rdeeprom (.reading 0xC0)).Inv ∧
      (waiting (some 1) false .wPoll .rdeeprom (.reading 0xC0)).contractKept = true :=
  ⟨test_witness_Invariant, by decide⟩
theorem test_witness_OtherFrames :
    ((after (step (hosted [0x000000] (.answers [])))).map (·.outputs) = some [.busWrite 0xC0 []]) ∧
    ((after (step (hosted [0x700000] (.answers [])))).map (·.outputs) = some [.busRead 0xC0 5]) := by decide
theorem test_witness_EepromIsWritten :
    (after (step (waiting none false .wPoll .wreeprom (.rdRsp [0x80, 0, 0, 0, 0])))).map (·.outputs) =
      some [.busWrite 0xC0 [0x66, 0xAB, 0xC0]] := by decide
theorem test_witness_AddrChanges :
    (after (step (hosted [0x300000] (.answers [])))).isSome = true ∧
      (hosted [0x300000] (.answers [])).resetReq = none := by decide
theorem test_witness_OnlyResetReturnsToNoValue :
    (after (step (hosted [0x410000] (.answers [])))).isSome = true ∧
      (hosted [0x410000] (.answers [])).mode.isSome = true ∧
      (hosted [0x410000] (.answers [])).value.isSome = true := by decide
theorem test_witness_OnlyTheseStepsWriteTheCache :
    ((after (step (hosted [0x430000] (.answers [])))).map (·.mode) = some (some 3) ∧
      (hosted [0x430000] (.answers [])).mode ≠ some 3) ∧
    ((after (step (waiting none true .wPoll .wreeprom (.rdRsp [0x80, 0, 0, 0, 0])))).map (·.value) =
        some (some 0xABC) ∧
      (waiting none true .wPoll .wreeprom (.rdRsp [0x80, 0, 0, 0, 0])).value ≠ some 0xABC) := by decide
theorem test_witness_PresenceCommands :
    ∀ cw ∈ [(0x03FFFF : CmdWord), 0x100000, 0x200000],
      (hosted [cw] (.answers [.ack true])).Ready ∧
      (hosted [cw] (.answers [.ack true])).host = .word cw :: [] ∧
      (hosted [cw] (.answers [.ack true])).env = .answers (.ack true :: []) :=
  fun _ _ => ⟨⟨rfl, rfl, rfl⟩, rfl, rfl⟩
theorem test_witness_WordsOfTheCommands :
    (0x03FFFF &&& 0xFC0000 : CmdWord) = 0x000000 ∧ (0x100000 &&& 0xFC0000 : CmdWord) = 0x100000 ∧
    (0x200000 &&& 0xFC0000 : CmdWord) = 0x200000 ∧ (0x300000 &&& 0xFC0000 : CmdWord) = 0x300000 ∧
    (0x43FFFF &&& 0xFC0000 : CmdWord) = 0x400000 ∧ (0x500000 &&& 0xFC0000 : CmdWord) = 0x500000 ∧
    (0x63FFFF &&& 0xFC0000 : CmdWord) = 0x600000 ∧ (0x700000 &&& 0xFC0000 : CmdWord) = 0x700000 ∧
    (0x83FFFF &&& 0xFC0000 : CmdWord) = 0x800000 := by decide
theorem test_witness_FastWriteCommands :
    ∀ cw ∈ [(0x43FFFF : CmdWord), 0x63FFFF],
      (hosted [cw] (.answers [.ack false])).Ready ∧
      (hosted [cw] (.answers [.ack false])).host = .word cw :: [] ∧
      (hosted [cw] (.answers [.ack false])).env = .answers (.ack false :: []) ∧
      (hosted [cw] (.answers [.ack false])).mode = some 1 ∧
      (hosted [cw] (.answers [.ack false])).value = some 0x111 :=
  fun _ _ => ⟨⟨rfl, rfl, rfl⟩, rfl, rfl, rfl, rfl⟩
theorem test_witness_DacReads :
    ∀ cw ∈ [(0x300000 : CmdWord), 0x500000],
      (hosted [cw] (.answers [.bytes (statusBytes ⟨0x46, 0xFF, 0xF0, 0, 0⟩)])).Ready ∧
      (hosted [cw] (.answers [.bytes (statusBytes ⟨0x46, 0xFF, 0xF0, 0, 0⟩)])).host = .word cw :: [] ∧
      (hosted [cw] (.answers [.bytes (statusBytes ⟨0x46, 0xFF, 0xF0, 0, 0⟩)])).env =
        .answers (.bytes (statusBytes ⟨0x46, 0xFF, 0xF0, 0, 0⟩) :: []) :=
  fun _ _ => ⟨⟨rfl, rfl, rfl⟩, rfl, rfl⟩

/-- A not-ready frame and a ready one. -/
def notReady : StatusFrame := ⟨0x40, 0, 0, 0, 0⟩
def ready : StatusFrame := ⟨0xC0, 0x12, 0x30, 0x45, 0x67⟩

/-- An idle block with POLL_LIMIT 2, one EEPROM command at the port and the frames that answer it. -/
def polling (limit : Option Nat) (cw : CmdWord) (fs : List StatusFrame) (as : List Answer) : State :=
  { hosted [cw] (.answers (fs.map (fun f => .bytes (statusBytes f)) ++ as)) with cfg := params limit false }

theorem test_witness_RdeepromReadsUntilReady :
    (polling (some 2) 0x700000 [notReady] [.bytes (statusBytes ready)]).Ready ∧
    (polling (some 2) 0x700000 [notReady] [.bytes (statusBytes ready)]).host = .word 0x700000 :: [] ∧
    (polling (some 2) 0x700000 [notReady] [.bytes (statusBytes ready)]).env =
      .answers ([notReady].map (fun f => .bytes (statusBytes f)) ++ .bytes (statusBytes ready) :: []) ∧
    (∀ f ∈ [notReady], f.b0.getLsbD 7 = false) ∧ ready.b0.getLsbD 7 = true ∧
    (∀ n, (polling (some 2) 0x700000 [notReady] [.bytes (statusBytes ready)]).cfg.pollLimit = some n →
      [notReady].length < n) :=
  ⟨⟨rfl, rfl, rfl⟩, rfl, rfl, by decide, by decide, by intro n h; cases h; decide⟩
theorem test_witness_WreepromWritesOnceAfterReady :
    (polling none 0x83FFFF [] [.bytes (statusBytes ready), .ack false]).Ready ∧
    (polling none 0x83FFFF [] [.bytes (statusBytes ready), .ack false]).host = .word 0x83FFFF :: [] ∧
    (polling none 0x83FFFF [] [.bytes (statusBytes ready), .ack false]).env =
      .answers (([] : List StatusFrame).map (fun f => .bytes (statusBytes f)) ++
        .bytes (statusBytes ready) :: .ack false :: []) ∧
    ready.b0.getLsbD 7 = true ∧
    (∀ n, (polling none 0x83FFFF [] [.bytes (statusBytes ready), .ack false]).cfg.pollLimit ≠ some n) :=
  ⟨⟨rfl, rfl, rfl⟩, rfl, rfl, by decide, by intro n h; cases h⟩
theorem test_witness_PollLimitEndsWithTimeout :
    ∀ cw ∈ [(0x700000 : CmdWord), 0x83FFFF], (polling (some 1) cw [notReady] []).Ready ∧
      (polling (some 1) cw [notReady] []).host = .word cw :: [] ∧ 1 ≤ [notReady].length ∧
      (polling (some 1) cw [notReady] []).cfg.pollLimit = some [notReady].length ∧
      (polling (some 1) cw [notReady] []).env =
        .answers ([notReady].map (fun f => .bytes (statusBytes f)) ++ []) ∧
      (∀ f ∈ [notReady], f.b0.getLsbD 7 = false) :=
  fun _ _ => ⟨⟨rfl, rfl, rfl⟩, rfl, by decide, rfl, rfl, by decide⟩
theorem test_witness_UnboundedWaitNeverCompletes :
    ∀ cw ∈ [(0x700000 : CmdWord), 0x83FFFF], (polling none cw [notReady, notReady] []).Ready ∧
      (polling none cw [notReady, notReady] []).host = .word cw :: [] ∧
      (polling none cw [notReady, notReady] []).cfg.pollLimit = none ∧
      (polling none cw [notReady, notReady] []).env =
        .answers ([notReady, notReady].map (fun f => .bytes (statusBytes f)) ++ []) ∧
      (∀ f ∈ [notReady, notReady], f.b0.getLsbD 7 = false) :=
  fun _ _ => ⟨⟨rfl, rfl, rfl⟩, rfl, rfl, rfl, by decide⟩
theorem test_witness_RunsAgainstTheReferenceDevice :
    ∀ cws : List CmdWord, (hosted cws (.devices [device false])).Ready ∧
      (hosted cws (.devices [device false])).host = cws.map .word ∧
      (hosted cws (.devices [device false])).env = .devices [device false] ∧
      (device false).devAddr = (hosted cws (.devices [device false])).addr ∧
      (hosted cws (.devices [device false])).addr ≠ Config.broadcast ∧ (device false).present = true ∧
      (device false).busy = false ∧ (hosted cws (.devices [device false])).mode = some 1 ∧
      (hosted cws (.devices [device false])).value = some 0x111 :=
  fun _ => ⟨⟨rfl, rfl, rfl⟩, rfl, rfl, rfl, (by decide : (0xC0 : Addr) ≠ Config.broadcast), rfl, rfl, rfl, rfl⟩
theorem test_witness_ADeviceMayBecomeReady :
    (hosted [] (.devices [device true])).Ready ∧ (hosted [] (.devices [device true])).host = [] ∧
    (hosted [] (.devices [device true])).env = .devices [device true] ∧
    (device true).busy = true ∧ (device true).busyEnds = true :: [] :=
  ⟨⟨rfl, rfl, rfl⟩, rfl, rfl, rfl, rfl⟩
theorem test_witness_NormalizedWriteReadsBack :
    (idle none none [.write 1, .read] (.devices [device false])).Ready ∧
    (idle none none [.write 1, .read] (.devices [device false])).host = .write 1 :: .read :: [] ∧
    (0 : NormNum) ≤ 1 ∧ (1 : NormNum) ≤ 1 :=
  ⟨⟨rfl, rfl, rfl⟩, rfl, by decide +kernel, by decide +kernel⟩

end Sys2Proof.Tests
end

section
/-! The frames the block writes, against an environment that is a list of answers (log entry 7). -/

namespace Sys2Proof.Machine

/-! ### The written frames are writes served by the environment -/

@[simp] theorem exec_frameGcReset (s : State) :
    exec .frameGcReset s = .next (s.serveWrite Config.broadcast [Config.gcResetCode]) := rfl
@[simp] theorem exec_frameGcWake (s : State) :
    exec .frameGcWake s = .next (s.serveWrite Config.broadcast [Config.gcWakeCode]) := rfl
@[simp] theorem exec_frameFastwr (m : PowerMode) (v : DacValue) (s : State) :
    exec (.frameFastwr m v) s = .next (s.serveWrite s.addr (packFast m v)) := rfl
@[simp] theorem exec_frameEewr (m : PowerMode) (v : DacValue) (s : State) :
    exec (.frameEewr m v) s = .next (s.serveWrite s.addr (packEewr m v)) := rfl

/-- Running a frame to the devices is serving one write; which address and bytes it has depends on the
frame. -/
theorem exec_writtenFrame (s : State) (m : PowerMode) (v : DacValue) {i : Instr}
    (hi : i ∈ [Instr.frameGcReset, .frameGcWake, .frameFastwr m v, .frameEewr m v]) :
    ∃ a f, exec i s = .next (s.serveWrite a f) := by
  simp only [List.mem_cons, List.not_mem_nil, or_false] at hi
  obtain rfl | rfl | rfl | rfl := hi
  · exact ⟨_, _, exec_frameGcReset s⟩
  · exact ⟨_, _, exec_frameGcWake s⟩
  · exact ⟨_, _, exec_frameFastwr m v s⟩
  · exact ⟨_, _, exec_frameEewr m v s⟩

/-! ### A write served from a list of answers -/

/-- With no answer listed, a write is answered by a free ack (20_memory.md R41). -/
theorem State.serveWrite_of_answers_nil {s : State} (h : s.env = .answers []) (a : Addr) (f : Frame) :
    s.serveWrite a f = { s with bus := .wrRsp (Config.freeAck s.draws), draws := s.draws + 1 } := by
  simp [State.serveWrite, h]

/-- A write takes the next answer listed, of whatever shape. -/
theorem State.serveWrite_of_answers_cons {s : State} {x : Answer} {xs : List Answer}
    (h : s.env = .answers (x :: xs)) (a : Addr) (f : Frame) :
    s.serveWrite a f = { s with bus := x.onBus, env := .answers xs } := by
  simp [State.serveWrite, h]

/-- Settles O27: each of the four frames is one served write, and the three forms of the environment are
the cases of that write. -/
theorem otherEnvironmentsOnlyAnswerTheFrame : Obligations.OtherEnvironmentsOnlyAnswerTheFrame := by
  intro s m v i hi
  obtain ⟨a, f, hexec⟩ := exec_writtenFrame s m v hi
  rw [hexec]
  refine ⟨fun henv => ?free, fun k as henv => ?ack, fun bs as henv => ?bytes⟩
  case free => rw [State.serveWrite_of_answers_nil henv]
  case ack => rw [State.serveWrite_of_answers_cons henv, Answer.onBus]
  case bytes => rw [State.serveWrite_of_answers_cons henv, Answer.onBus]

end Sys2Proof.Machine
end

section
/-! What the decoders accept: each frame that decodes is the packing of the instruction's fields, and
what they answer is well-formed. -/

namespace Sys2Proof.Machine

/-! ### Command words -/

/-- A command word whose reserved field is zero is no RESERVED_RSV. -/
theorem decodeOpcode_wellFormed (op : BitVec 4) (m : PowerMode) (v : BitVec 16) :
    WellFormed (decodeOpcode op m v) := by
  unfold decodeOpcode
  split <;> rfl

/-- Decoding a command word answers a well-formed instruction: RESERVED_RSV only for a reserved field
that is not zero (30_encoding.md R74, R91). -/
theorem decodeCommand_wellFormed (cw : CmdWord) : WellFormed (decodeCommand cw) := by
  unfold decodeCommand
  split
  · exact decodeOpcode_wellFormed _ _ _
  · rename_i hrsv
    exact bne_iff_ne.mpr hrsv

/-! ### Frames -/

variable {f : Frame} {i : Instr}

/-- The constant bits and the two fields are all the bits of a fast write (30_encoding.md R80). -/
theorem packFast_fields {b0 b1 : Byte} (h : isFastByte b0 = true) :
    packFast (fastMode b0) (fastValue b0 b1) = [b0, b1] := by
  have htop : b0.extractLsb' 6 2 = 0b00#2 := by simpa [isFastByte] using h
  have hfirst : 0b00#2 ++ fastMode b0 ++ (fastValue b0 b1).extractLsb' 8 4 = b0 := by
    rw [← htop]
    apply BitVec.eq_of_getLsbD_eq
    intro k hk
    simp only [fastMode, fastValue, BitVec.getLsbD_append, BitVec.getLsbD_extractLsb']
    interval_cases k <;> simp
  have hsecond : (fastValue b0 b1).extractLsb' 0 8 = b1 := by
    apply BitVec.eq_of_getLsbD_eq
    intro k hk
    simp only [fastValue, BitVec.getLsbD_append, BitVec.getLsbD_extractLsb']
    interval_cases k <;> simp
  rw [packFast, hfirst, hsecond]

/-- The frames that decode at the general-call address (30_encoding.md R82). -/
theorem decodeGeneral_eq_ok (h : decodeGeneral f = .ok i) :
    (f = [Config.gcResetCode] ∧ i = .frameGcReset) ∨
    (f = [Config.gcWakeCode] ∧ i = .frameGcWake) := by
  unfold decodeGeneral at h
  split at h
  · split at h
    · cases h; simp_all
    · split at h <;> cases h
      simp_all
  · cases h

/-- The frames that decode at the device's address (30_encoding.md R80, R81). -/
theorem decodeDevice_eq_ok (h : decodeDevice f = .ok i) :
    (∃ m v, f = packFast m v ∧ i = .frameFastwr m v) ∨
    (∃ m v, f = packEewr m v ∧ i = .frameEewr m v) := by
  unfold decodeDevice at h
  split at h
  · cases h
  · split at h <;> cases h
    exact .inl ⟨_, _, (packFast_fields ‹_›).symm, rfl⟩
  · split at h <;> cases h
    exact .inr ⟨_, _, Eq.symm ‹_›, rfl⟩
  · cases h

/-- The frames that decode as an answer of the device (30_encoding.md R84). -/
theorem decodeStatus_eq_ok (h : decodeStatus f = .ok i) :
    ∃ x, f = statusBytes x ∧ i = .frameStatus x := by
  unfold decodeStatus at h
  split at h <;> cases h
  exact ⟨_, rfl, rfl⟩

end Sys2Proof.Machine
end

section
/-! What the procedures leave in each field of the block's record that the invariant speaks of. -/

namespace Sys2Proof.Machine

variable (s : State)

/-! ### wrDac -/

@[simp] theorem State.wrDac_cfg : s.wrDac.cfg = s.cfg := by rw [wrDac_spec]
@[simp] theorem State.wrDac_addr : s.wrDac.addr = s.addr := by rw [wrDac_spec]
@[simp] theorem State.wrDac_mode : s.wrDac.mode = some s.modeRead := by rw [wrDac_spec]
@[simp] theorem State.wrDac_value : s.wrDac.value = some s.keepMode.valueRead := by rw [wrDac_spec]
@[simp] theorem State.wrDac_phase : s.wrDac.phase = .wAck := by rw [wrDac_spec]
@[simp] theorem State.wrDac_cur : s.wrDac.cur = s.cur := by rw [wrDac_spec]
@[simp] theorem State.wrDac_resetReq : s.wrDac.resetReq = s.resetReq := by rw [wrDac_spec]
@[simp] theorem State.wrDac_bus :
    s.wrDac.bus = .writing s.addr (packFast s.modeRead s.keepMode.valueRead) := by rw [wrDac_spec]

/-! ### writeEeprom -/

@[simp] theorem State.writeEeprom_cfg : s.writeEeprom.cfg = s.cfg := by rw [writeEeprom_spec]
@[simp] theorem State.writeEeprom_addr : s.writeEeprom.addr = s.addr := by rw [writeEeprom_spec]
@[simp] theorem State.writeEeprom_mode :
    s.writeEeprom.mode = if s.cfg.wreepromUpdatesCache then some s.lm else s.mode := by
  rw [writeEeprom_spec]
@[simp] theorem State.writeEeprom_value :
    s.writeEeprom.value = if s.cfg.wreepromUpdatesCache then some s.lv else s.value := by
  rw [writeEeprom_spec]
@[simp] theorem State.writeEeprom_phase : s.writeEeprom.phase = .wAck := by rw [writeEeprom_spec]
@[simp] theorem State.writeEeprom_cur : s.writeEeprom.cur = s.cur := by rw [writeEeprom_spec]
@[simp] theorem State.writeEeprom_resetReq : s.writeEeprom.resetReq = s.resetReq := by
  rw [writeEeprom_spec]
@[simp] theorem State.writeEeprom_bus :
    s.writeEeprom.bus = .writing s.addr (packEewr s.lm s.lv) := by rw [writeEeprom_spec]

/-! ### pollAgain -/

@[simp] theorem State.pollAgain_cfg : s.pollAgain.cfg = s.cfg := by
  unfold State.pollAgain; split <;> rfl
@[simp] theorem State.pollAgain_addr : s.pollAgain.addr = s.addr := by
  unfold State.pollAgain; split <;> rfl
@[simp] theorem State.pollAgain_mode : s.pollAgain.mode = s.mode := by
  unfold State.pollAgain; split <;> rfl
@[simp] theorem State.pollAgain_value : s.pollAgain.value = s.value := by
  unfold State.pollAgain; split <;> rfl
@[simp] theorem State.pollAgain_resetReq : s.pollAgain.resetReq = s.resetReq := by
  unfold State.pollAgain; split <;> rfl

end Sys2Proof.Machine
end

section
/-! Which instruction is next, by what is on the bus, and what a step is when it runs none. -/

namespace Sys2Proof.Machine

variable {s t : State} {i : Instr} {a : Addr} {f : Frame}

/-! ### The fetch -/

/-- With the open port alone at hand, the host's next request is fetched. -/
theorem State.fetch_of_quiet (hbus : s.bus = .quiet) (hphase : s.phase = .idle) :
    s.fetch = s.host.head?.map decodeRequest := by
  simp [State.fetch, State.busCode, State.portRequest, hbus, hphase]

/-- A general-call frame on the bus is fetched when it decodes. -/
theorem State.fetch_of_general (hbus : s.bus = .writing Config.broadcast f) :
    s.fetch = (decode (.down .general f)).toOption := by
  simp [State.fetch, State.busCode, State.target, hbus]

/-- A frame at ADDR on the bus is fetched when it decodes. -/
theorem State.fetch_of_device (haddr : s.addr ≠ Config.broadcast)
    (hbus : s.bus = .writing s.addr f) : s.fetch = (decode (.down .device f)).toOption := by
  simp [State.fetch, State.busCode, State.target, hbus, haddr]

/-- An answer to a read on the bus is fetched when it decodes. -/
theorem State.fetch_of_rdRsp (hbus : s.bus = .rdRsp f) :
    s.fetch = (decode (.up f)).toOption := by
  simp [State.fetch, State.busCode, hbus]

/-- An ack is no instruction. -/
theorem State.fetch_of_wrRsp {k : Bool} (hbus : s.bus = .wrRsp k) : s.fetch = none := by
  simp [State.fetch, State.busCode, State.portRequest, hbus]

/-- A decoder's answer as an option. -/
theorem toOption_eq_some {x : Except DecodeError Instr} : x.toOption = some i ↔ x = .ok i := by
  cases x <;> simp [Except.toOption]

/-- The instruction fetched while a write is on the bus does with that write what the environment does
with any: its packed fields are the frame itself. -/
theorem State.exec_of_fetch_writing (hbus : s.bus = .writing a f) (h : s.fetch = some i) :
    exec i s = .next (s.serveWrite a f) := by
  by_cases hgen : a = Config.broadcast
  · subst hgen
    rw [State.fetch_of_general hbus, toOption_eq_some] at h
    obtain ⟨rfl, rfl⟩ | ⟨rfl, rfl⟩ := decodeGeneral_eq_ok h <;> rfl
  · by_cases hdev : a = s.addr
    · subst hdev
      rw [State.fetch_of_device hgen hbus, toOption_eq_some] at h
      obtain ⟨m, v, rfl, rfl⟩ | ⟨m, v, rfl, rfl⟩ := decodeDevice_eq_ok h <;> rfl
    · simp [State.fetch, State.busCode, State.target, State.portRequest, hbus, hgen, hdev] at h

/-- The three places an instruction comes from: the open port, a frame to the devices, a status frame. -/
theorem State.fetch_eq_some (h : s.fetch = some i) :
    (s.bus = .quiet ∧ s.phase = .idle ∧ ∃ r, i = decodeRequest r) ∨
    (∃ a f, s.bus = .writing a f ∧ exec i s = .next (s.serveWrite a f)) ∨
    (∃ x, s.bus = .rdRsp (statusBytes x) ∧ i = .frameStatus x) := by
  cases hbus : s.bus with
  | quiet =>
    by_cases hphase : s.phase = .idle
    · rw [State.fetch_of_quiet hbus hphase, Option.map_eq_some_iff] at h
      obtain ⟨r, -, rfl⟩ := h
      exact .inl ⟨rfl, hphase, r, rfl⟩
    · simp [State.fetch, State.busCode, State.portRequest, hbus, hphase] at h
  | writing a f => exact .inr (.inl ⟨a, f, rfl, State.exec_of_fetch_writing hbus h⟩)
  | reading a => simp [State.fetch, State.busCode, State.portRequest, hbus] at h
  | wrRsp k => simp [State.fetch_of_wrRsp hbus] at h
  | rdRsp f =>
    rw [State.fetch_of_rdRsp hbus, toOption_eq_some] at h
    obtain ⟨x, rfl, rfl⟩ := decodeStatus_eq_ok h
    exact .inr (.inr ⟨x, rfl, rfl⟩)

/-! ### The step -/

/-- With no reset raised a step is the instruction at hand, after the devices' own steps. -/
theorem step_of_fetch (hreq : s.resetReq = none) (h : s.fetch = some i) :
    step s = exec i s.settleDevices := by
  simp [step, State.stepWith, State.dueWith, hreq, h]

/-- With no reset raised and no instruction at hand, a step is what else is due. -/
theorem step_of_fetch_none (hreq : s.resetReq = none) (h : s.fetch = none) :
    step s = s.settleDevices.otherStep := by
  simp [step, State.stepWith, State.dueWith, hreq, h]

end Sys2Proof.Machine
end

section
/-! Everything a step can do, said once: the acceptance of what the host presents, and the transitions of
the block and its environment. The safety statements are case analyses of these two relations. -/

namespace Sys2Proof.Machine

/-- What accepting an instruction in IDLE makes of the block (10_state.md R24): ILLEGAL at once, or the
command's first bus request, with a latch that fits the phase it waits in. -/
inductive Acceptance (s : State) : Instr → State → Prop
  | illegal {i} : Acceptance s i s.raiseIllegal
  | write {i c a f} (hfit : commandFits .wAck c = true) (hlegal : LegalWrite s.addr a f) :
      Acceptance s i ((s.accept c false).issueWrite a f)
  | dacRead {i c b} (hfit : commandFits .wDac c = true) : Acceptance s i (s.accept c b).rdDac
  | setMode (m) : Acceptance s (.setmode m) ((s.accept .setmode false).setMode m).wrDac
  | setValue {i v} (hi : (∃ w, i = .wru12 w) ∨ ∃ w, i = .write w) :
      Acceptance s i ((s.accept .wru12 false).setValue v).wrDac
  | poll {i c m v} (hfit : commandFits .wPoll c = true) :
      Acceptance s i { s.accept c false with lm := m, lv := v }.pollReady

/-- One constructor for each event of the system: the reset event, the idle step, an acceptance, the
environment's answer to a request, and the block's step on an answer. (The response of RD_DAC, which
GETMODE and RDVAL fill differently, is left open.) -/
inductive Transition (s : State) : State → Prop
  | reset {a} (hreq : s.resetReq = some a) : Transition s (s.resetBlock a)
  | wait (hbus : s.bus = .quiet) : Transition s s
  | accept {i t} (hbus : s.bus = .quiet) (hphase : s.phase = .idle) (hfetch : s.fetch = some i)
      (h : Acceptance s i t) : Transition s t
  | serveWrite {a f} (hbus : s.bus = .writing a f) : Transition s (s.serveWrite a f)
  | serveRead {a} (hbus : s.bus = .reading a) : Transition s (s.serveRead a)
  | ack {k} (hbus : s.bus = .wrRsp k) (hphase : s.phase = .wAck) :
      Transition s (s.finish { status := .ok, ack := k } none)
  | loadCache {f} (hfetch : s.fetch = some (.frameStatus f)) (hphase : s.phase = .wDac) (r n) :
      Transition s ((s.loadCache (unpackDac f)).finish r n)
  | pollAgain {f} (hfetch : s.fetch = some (.frameStatus f)) (hrdy : rdy f = false)
      (hphase : s.phase = .wPoll) : Transition s s.pollAgain
  | readEeprom {f} (hfetch : s.fetch = some (.frameStatus f)) (hrdy : rdy f = true)
      (hphase : s.phase = .wPoll) (hcur : s.cur = .rdeeprom) :
      Transition s (s.finish
        { status := .ok, mode := (unpackEeprom f).1, value := (unpackEeprom f).2 } none)
  | writeEeprom {f} (hfetch : s.fetch = some (.frameStatus f)) (hrdy : rdy f = true)
      (hphase : s.phase = .wPoll) (hcur : s.cur = .wreeprom) : Transition s s.writeEeprom

variable {s t : State}

/-! ### Every step is one of the transitions -/

/-- An opcode's meaning is its acceptance, in IDLE and only there. -/
theorem acceptance_decodeOpcode (op : BitVec 4) (m : PowerMode) (v : BitVec 16) (s : State) :
    ∃ t, Acceptance s (decodeOpcode op m v) t ∧ exec (decodeOpcode op m v) s = s.whenIdle t := by
  unfold decodeOpcode
  split
  · exact ⟨_, .write (c := .probe) rfl (.inr ⟨rfl, .inl rfl⟩), rfl⟩
  · exact ⟨_, .write (c := .gcreset) rfl (.inl ⟨rfl, .inl rfl⟩), rfl⟩
  · exact ⟨_, .write (c := .gcwake) rfl (.inl ⟨rfl, .inr rfl⟩), rfl⟩
  · exact ⟨_, .dacRead (c := .getmode) rfl, rfl⟩
  · exact ⟨_, .setMode m, rfl⟩
  · exact ⟨_, .dacRead (c := .rdval) rfl, rfl⟩
  · exact ⟨_, .setValue (.inl ⟨v, rfl⟩), rfl⟩
  · exact ⟨_, .poll (c := .rdeeprom) rfl, rfl⟩
  · exact ⟨_, .poll (c := .wreeprom) rfl, rfl⟩
  all_goals exact ⟨_, .illegal, rfl⟩

/-- The meaning of whatever the host presents is its acceptance, in IDLE and only there. -/
theorem acceptance_decodeRequest (r : Request) (s : State) :
    ∃ t, Acceptance s (decodeRequest r) t ∧ exec (decodeRequest r) s = s.whenIdle t := by
  cases r with
  | word cw =>
    simp only [decodeRequest, decodeCommand]
    split
    · exact acceptance_decodeOpcode _ _ _ s
    · exact ⟨_, .illegal, rfl⟩
  | write v => exact ⟨_, .setValue (.inr ⟨v, rfl⟩), rfl⟩
  | read => exact ⟨_, .dacRead (c := .rdval) rfl, rfl⟩

/-- The block's step on a status frame is one of the transitions. -/
theorem Transition.of_takeStatus {f : StatusFrame} (hfetch : s.fetch = some (.frameStatus f))
    (h : s.takeStatus f = .next t) : Transition s t := by
  obtain ⟨hphase, hdac⟩ | ⟨hphase, hpoll⟩ := State.takeStatus_eq_next h
  · obtain ⟨-, rfl⟩ | ⟨-, rfl⟩ := State.takeDacFrame_eq_next hdac <;>
      exact .loadCache hfetch hphase _ _
  · obtain ⟨hrdy, rfl⟩ | ⟨hrdy, hcur, rfl⟩ | ⟨hrdy, hcur, rfl⟩ := State.takePollFrame_eq_next hpoll
    · exact .pollAgain hfetch hrdy hphase
    · exact .readEeprom hfetch hrdy hphase hcur
    · exact .writeEeprom hfetch hrdy hphase hcur

/-- Running the fetched instruction is one of the transitions. -/
theorem Transition.of_exec {i : Instr} (hfetch : s.fetch = some i) (h : exec i s = .next t) :
    Transition s t := by
  obtain ⟨hbus, hphase, r, rfl⟩ | ⟨a, f, hbus, hserve⟩ | ⟨x, -, rfl⟩ := State.fetch_eq_some hfetch
  · obtain ⟨u, hacc, hexec⟩ := acceptance_decodeRequest r s
    rw [hexec, State.whenIdle_of_idle hphase] at h
    cases h
    exact .accept hbus hphase hfetch hacc
  · rw [hserve] at h
    cases h
    exact .serveWrite hbus
  · exact .of_takeStatus hfetch h

/-- A step that runs no instruction is one of the transitions. -/
theorem Transition.of_otherStep (h : s.otherStep = .next t) : Transition s t := by
  obtain ⟨hbus, rfl⟩ | ⟨a, f, hbus, rfl⟩ | ⟨a, hbus, rfl⟩ | ⟨k, hbus, hack⟩ :=
    State.otherStep_eq_next h
  · exact .wait hbus
  · exact .serveWrite hbus
  · exact .serveRead hbus
  · obtain ⟨hphase, -, rfl⟩ := State.takeAck_eq_next hack
    exact .ack hbus hphase

/-- Everything a step can do: the devices' own steps, then one of the transitions. -/
theorem transition_of_step (h : step s = .next t) : Transition s.settleDevices t := by
  obtain ⟨a, hreq, rfl⟩ | ⟨-, i, hfetch, hexec⟩ | ⟨-, -, hother⟩ := State.stepWith_eq_next h
  · exact .reset (by simpa using hreq)
  · exact .of_exec (by simpa using hfetch) hexec
  · exact .of_otherStep hother

end Sys2Proof.Machine
end

section
/-! The parameters, ADDR and the raised reset: which steps leave them alone. -/

namespace Sys2Proof.Machine

/-- Two states with the same parameters, the same ADDR and the same raised reset. -/
structure State.SameSetting (s t : State) : Prop where
  cfg : t.cfg = s.cfg
  addr : t.addr = s.addr
  resetReq : t.resetReq = s.resetReq

variable {s t : State}

theorem Acceptance.sameSetting {i : Instr} (h : Acceptance s i t) : s.SameSetting t := by
  cases h with
  | illegal | write | dacRead | poll => exact ⟨rfl, rfl, rfl⟩
  | setMode | setValue => constructor <;> simp

theorem Transition.sameSetting (h : Transition s t) (hreq : s.resetReq = none) :
    s.SameSetting t := by
  cases h with
  | reset hsome => simp [hreq] at hsome
  | accept _ _ _ hacc => exact hacc.sameSetting
  | wait | ack | loadCache | readEeprom => exact ⟨rfl, rfl, rfl⟩
  | serveWrite | serveRead | pollAgain | writeEeprom => constructor <;> simp

/-- Not even the reset event changes the parameters: the block is constructed anew with its own. -/
theorem Transition.cfg (h : Transition s t) : t.cfg = s.cfg := by
  cases hreq : s.resetReq with
  | none => exact (h.sameSetting hreq).cfg
  | some a =>
    cases h with
    | reset => rfl
    | accept _ _ _ hacc => exact hacc.sameSetting.cfg
    | wait | ack | loadCache | readEeprom => rfl
    | serveWrite | serveRead | pollAgain | writeEeprom => simp

/-- Settles O43: no transition but the reset event sets ADDR, and none the parameters. -/
theorem addrChangesOnlyAtReset : Obligations.AddrChangesOnlyAtReset := by
  intro s t h
  have htrans := transition_of_step h
  refine ⟨by simpa using htrans.cfg, fun hreq => ?_⟩
  simpa using (htrans.sameSetting (by simpa using hreq)).addr

end Sys2Proof.Machine
end

section
/-! The invariant: construction meets it and every transition keeps it. -/

namespace Sys2Proof.Machine

variable {s t : State}

/-- A legal POLL_LIMIT is not reached before the first frame (42_eeprom.md R130). -/
theorem Params.limit_not_reached {p : Params} (h : p.wf = true) :
    limitReached p.pollLimit 0 = false := by
  cases hlimit : p.pollLimit with
  | none => rfl
  | some n =>
    have hn : 1 ≤ n := by
      simp only [Params.wf, hlimit, Bool.and_eq_true, decide_eq_true_eq] at h
      exact h.2
    simp only [limitReached, decide_eq_false_iff_not]
    omega

/-- The invariant from its three parts that a step can change. -/
theorem State.Inv.of_sameSetting (hs : s.Inv) (hset : s.SameSetting t)
    (latch : commandFits t.phase t.cur = true) (bus : t.bus.fits s.addr t.phase)
    (polls : t.phase = .wPoll → limitReached s.cfg.pollLimit t.polls = false) : t.Inv where
  params := by rw [hset.cfg]; exact hs.params
  addr := by rw [hset.cfg, hset.addr]; exact hs.addr
  resetArg := by rw [hset.cfg, hset.resetReq]; exact hs.resetArg
  latch := latch
  bus := by rw [hset.addr]; exact bus
  polls := by rw [hset.cfg]; exact polls

/-- Construction with legal parameters at an address of ADDR_SET meets the invariant. -/
theorem State.construct_inv {p : Params} {a : Addr} (hp : p.wf = true) (ha : a ∈ p.addrSet) :
    (State.construct p a).Inv where
  params := hp
  addr := ha
  resetArg := nofun
  latch := rfl
  bus := trivial
  polls := nofun

/-- The reset event puts the block where construction does (70_reset_and_hazards.md R180). -/
theorem State.Inv.resetBlock {a : Addr} (hs : s.Inv) (hreq : s.resetReq = some a) :
    (s.resetBlock a).Inv :=
  have h := State.construct_inv hs.params (hs.resetArg a hreq)
  ⟨h.params, h.addr, h.resetArg, h.latch, h.bus, h.polls⟩

/-- Nothing is outstanding in IDLE. -/
theorem State.Inv.bus_of_idle (hs : s.Inv) (hphase : s.phase = .idle) : s.bus = .quiet := by
  have hbus := hs.bus
  rw [hphase] at hbus
  cases h : s.bus <;> simp [h, Bus.fits] at hbus ⊢

/-- An answer of either shape fits every phase that waits. -/
theorem Bus.fits_of_answer {addr : Addr} {p : Phase} {b : Bus} (hp : p ≠ .idle)
    (hb : (∃ k, b = .wrRsp k) ∨ ∃ r, b = .rdRsp r) : b.fits addr p := by
  obtain ⟨k, rfl⟩ | ⟨r, rfl⟩ := hb <;> cases p <;> simp_all [Bus.fits]

/-- The environment's answer to what is outstanding keeps the invariant, whatever its shape. -/
theorem State.Inv.of_answer (hs : s.Inv) (hset : s.SameSetting t) (hbusy : s.bus ≠ .quiet)
    (hphase : t.phase = s.phase) (hcur : t.cur = s.cur) (hpolls : t.polls = s.polls)
    (hanswer : (∃ k, t.bus = .wrRsp k) ∨ ∃ r, t.bus = .rdRsp r) : t.Inv :=
  hs.of_sameSetting hset (by rw [hphase, hcur]; exact hs.latch)
    (Bus.fits_of_answer (fun hidle => hbusy (hs.bus_of_idle (hphase ▸ hidle))) hanswer)
    (by rw [hphase, hpolls]; exact hs.polls)

/-- A not-ready frame keeps the invariant: polling goes on only below the limit (42_eeprom.md R130 (e)). -/
theorem State.Inv.pollAgain (hs : s.Inv) (hphase : s.phase = .wPoll) : s.pollAgain.Inv := by
  obtain ⟨-, heq⟩ | ⟨hlimit, heq⟩ := s.pollAgain_cases <;> rw [heq]
  · exact hs.of_sameSetting ⟨rfl, rfl, rfl⟩ rfl trivial nofun
  · exact hs.of_sameSetting ⟨rfl, rfl, rfl⟩ (hphase ▸ hs.latch) rfl fun _ => hlimit

/-- The fast write of WR_DAC is a legal write. -/
theorem legalWrite_packFast (addr : Addr) (m : PowerMode) (v : DacValue) :
    LegalWrite addr addr (packFast m v) := .inr ⟨rfl, .inr (.inl ⟨m, v, rfl⟩)⟩

/-- The one write of WREEPROM is a legal write. -/
theorem legalWrite_packEewr (addr : Addr) (m : PowerMode) (v : DacValue) :
    LegalWrite addr addr (packEewr m v) := .inr ⟨rfl, .inr (.inr ⟨m, v, rfl⟩)⟩

/-- WR_DAC of a command that waits in W_ACK keeps the invariant, whatever the command did before it. -/
theorem State.Inv.wrDac (hs : s.Inv) (hset : s.SameSetting t)
    (hfit : commandFits .wAck t.cur = true) : t.wrDac.Inv := by
  refine hs.of_sameSetting ⟨?cfg, ?addr, ?resetReq⟩ ?latch ?bus ?polls
  case cfg => simpa using hset.cfg
  case addr => simpa using hset.addr
  case resetReq => simpa using hset.resetReq
  case latch => simpa using hfit
  case bus =>
    rw [t.wrDac_phase, t.wrDac_bus, hset.addr]
    exact legalWrite_packFast _ _ _
  case polls => simp

/-- Acceptance of whatever the host presents keeps the invariant. -/
theorem Acceptance.inv {i : Instr} (h : Acceptance s i t) (hs : s.Inv) : t.Inv := by
  cases h with
  | illegal => exact hs.of_sameSetting ⟨rfl, rfl, rfl⟩ hs.latch hs.bus hs.polls
  | write hfit hlegal => exact hs.of_sameSetting ⟨rfl, rfl, rfl⟩ hfit hlegal nofun
  | dacRead hfit => exact hs.of_sameSetting ⟨rfl, rfl, rfl⟩ hfit rfl nofun
  | setMode | setValue => exact hs.wrDac ⟨rfl, rfl, rfl⟩ rfl
  | poll hfit =>
    exact hs.of_sameSetting ⟨rfl, rfl, rfl⟩ hfit rfl fun _ => Params.limit_not_reached hs.params

/-- Every transition keeps the invariant. -/
theorem Transition.inv (h : Transition s t) (hs : s.Inv) : t.Inv := by
  cases h with
  | reset hreq => exact hs.resetBlock hreq
  | wait => exact hs
  | accept _ _ _ hacc => exact hacc.inv hs
  | serveWrite hbus =>
    exact hs.of_answer (by constructor <;> simp) (by simp [hbus]) (by simp) (by simp) (by simp)
      (State.serveWrite_bus _ _ s)
  | serveRead hbus =>
    exact hs.of_answer (by constructor <;> simp) (by simp [hbus]) (by simp) (by simp) (by simp)
      (State.serveRead_bus _ s)
  | ack | loadCache | readEeprom => exact hs.of_sameSetting ⟨rfl, rfl, rfl⟩ rfl trivial nofun
  | pollAgain _ _ hphase => exact hs.pollAgain hphase
  | writeEeprom _ _ _ hcur =>
    refine hs.of_sameSetting (by constructor <;> simp) (by simp [hcur]; rfl) ?_ (by simp)
    rw [s.writeEeprom_phase, s.writeEeprom_bus]
    exact legalWrite_packEewr _ _ _

/-- The devices' own steps are none of the invariant's business. -/
theorem State.Inv.settleDevices (hs : s.Inv) : s.settleDevices.Inv :=
  hs.of_sameSetting (by constructor <;> simp) (by simpa using hs.latch) (by simpa using hs.bus)
    (by simpa using hs.polls)

/-- Settles O38: a step is the devices' own steps and one transition, and both keep the invariant. -/
theorem everyStepKeepsTheInvariant : Obligations.EveryStepKeepsTheInvariant :=
  fun _ _ hs h => (transition_of_step h).inv hs.settleDevices

/-- Settles O37: the parameters and the address of the reset state are legal. -/
theorem invariantHoldsAtReset : Obligations.InvariantHoldsAtReset :=
  State.construct_inv (by decide) (by decide)

end Sys2Proof.Machine
end

section
/-! The one fault of the model, a latch that does not fit the phase, is not met under the invariant. -/

namespace Sys2Proof.Machine

variable {s : State} {r : Fault}

/-- A command is accepted or refused, never a fault. -/
theorem State.whenIdle_ne_fault {t : State} : s.whenIdle t ≠ .fault r := by
  unfold State.whenIdle
  split <;> nofun

/-- A frame of the wrong length is refused, never a fault. -/
theorem State.refuseFrame_ne_fault : s.refuseFrame ≠ .fault r := by
  unfold State.refuseFrame
  split <;> nofun

/-- An ack is no fault when the command in progress can wait in the phase. -/
theorem State.takeAck_ne_fault {a : Bool} (hfit : commandFits s.phase s.cur = true) :
    s.takeAck a ≠ .fault r := by
  unfold State.takeAck
  split
  · split <;> simp_all [commandFits]
  all_goals nofun

/-- A status frame is no fault when the command in progress can wait in the phase. -/
theorem State.takeStatus_ne_fault {f : StatusFrame} (hfit : commandFits s.phase s.cur = true) :
    s.takeStatus f ≠ .fault r := by
  unfold State.takeStatus
  split
  · unfold State.takeDacFrame
    split <;> simp_all [commandFits]
  · unfold State.takePollFrame
    split
    · split <;> simp_all [commandFits]
    · nofun
  all_goals nofun

/-- No instruction faults where it is fetched and the latch fits. -/
theorem exec_ne_fault {i : Instr} (hfit : commandFits s.phase s.cur = true)
    (hfetch : s.fetch = some i) : exec i s ≠ .fault r := by
  obtain ⟨-, -, q, rfl⟩ | ⟨a, f, -, hserve⟩ | ⟨x, -, rfl⟩ := State.fetch_eq_some hfetch
  · obtain ⟨t, -, hexec⟩ := acceptance_decodeRequest q s
    rw [hexec]
    exact State.whenIdle_ne_fault
  · rw [hserve]
    nofun
  · exact State.takeStatus_ne_fault hfit

/-- A step that runs no instruction does not fault where the latch fits. -/
theorem State.otherStep_ne_fault (hfit : commandFits s.phase s.cur = true) :
    s.otherStep ≠ .fault r := by
  unfold State.otherStep
  split
  · nofun
  · nofun
  · nofun
  · exact State.takeAck_ne_fault hfit
  · exact State.refuseFrame_ne_fault

/-- Whatever is due, it is no fault where the latch fits. -/
theorem State.dueWith_exec_ne_fault (hfit : commandFits s.phase s.cur = true) :
    s.dueWith exec ≠ .fault r := by
  unfold State.dueWith
  split
  · nofun
  · split
    · exact exec_ne_fault hfit ‹_›
    · exact State.otherStep_ne_fault hfit

/-- Settles O39: the devices' own steps keep the latch fitting, and then nothing due is a fault. -/
theorem noStepFaultsUnderTheInvariant : Obligations.NoStepFaultsUnderTheInvariant := by
  intro s hs
  unfold State.safe
  split
  · trivial
  · trivial
  · rename_i hfault
    exact State.dueWith_exec_ne_fault hs.settleDevices.latch hfault

end Sys2Proof.Machine
end

section
/-! The cache registers: which steps write them, and that a step that writes leaves both holding a value. -/

namespace Sys2Proof.Machine

variable {s t : State}

/-- The steps that may write the cache (10_state.md R30, 42_eeprom.md R132), by what is fetched: the
acceptance of SETMODE, WRU12 or WRITE, or a status frame of RD_DAC or of WREEPROM's ready frame. -/
def State.WritesCache (s : State) : Prop :=
  (∃ m, s.fetch = some (.setmode m)) ∨ (∃ v, s.fetch = some (.wru12 v)) ∨
  (∃ v, s.fetch = some (.write v)) ∨
  (∃ f, s.fetch = some (.frameStatus f) ∧
    (s.phase = .wDac ∨
      (s.phase = .wPoll ∧ s.cur = .wreeprom ∧ s.cfg.wreepromUpdatesCache = true ∧
        f.b0.getLsbD 7 = true)))

/-- What a step can make of the cache: both registers as they were, or a writer that leaves both holding
a value. -/
def State.CacheStep (s t : State) : Prop :=
  (t.mode = s.mode ∧ t.value = s.value) ∨
  (t.mode.isSome = true ∧ t.value.isSome = true ∧ s.WritesCache)

theorem Acceptance.cacheStep {i : Instr} (h : Acceptance s i t) (hfetch : s.fetch = some i) :
    s.CacheStep t := by
  cases h with
  | illegal | write | dacRead | poll => exact .inl ⟨rfl, rfl⟩
  | setMode m => exact .inr ⟨by simp, by simp, .inl ⟨m, hfetch⟩⟩
  | setValue hi =>
    refine .inr ⟨by simp, by simp, .inr ?_⟩
    obtain ⟨w, rfl⟩ | ⟨w, rfl⟩ := hi
    · exact .inl ⟨w, hfetch⟩
    · exact .inr (.inl ⟨w, hfetch⟩)

/-- WREEPROM's ready frame writes both registers or neither, as WREEPROM_UPDATES_CACHE says. -/
theorem State.cacheStep_writeEeprom {f : StatusFrame} (hfetch : s.fetch = some (.frameStatus f))
    (hrdy : rdy f = true) (hphase : s.phase = .wPoll) (hcur : s.cur = .wreeprom) :
    s.CacheStep s.writeEeprom := by
  cases hupd : s.cfg.wreepromUpdatesCache with
  | false => exact .inl ⟨by simp [hupd], by simp [hupd]⟩
  | true =>
    exact .inr ⟨by simp [hupd], by simp [hupd],
      .inr (.inr (.inr ⟨f, hfetch, .inr ⟨hphase, hcur, hupd, hrdy⟩⟩))⟩

theorem Transition.cacheStep (h : Transition s t) (hreq : s.resetReq = none) : s.CacheStep t := by
  cases h with
  | reset hsome => simp [hreq] at hsome
  | accept _ _ hfetch hacc => exact hacc.cacheStep hfetch
  | wait | ack | readEeprom => exact .inl ⟨rfl, rfl⟩
  | serveWrite | serveRead | pollAgain => exact .inl ⟨by simp, by simp⟩
  | loadCache hfetch hphase =>
    exact .inr ⟨rfl, rfl, .inr (.inr (.inr ⟨_, hfetch, .inl hphase⟩))⟩
  | writeEeprom hfetch hrdy hphase hcur =>
    exact State.cacheStep_writeEeprom hfetch hrdy hphase hcur

/-- What a step can make of the cache; the devices' own steps do not touch it. -/
theorem cacheStep_of_step (h : step s = .next t) (hreq : s.resetReq = none) : s.CacheStep t := by
  simpa [State.CacheStep, State.WritesCache] using
    (transition_of_step h).cacheStep (by simpa using hreq)

/-- Settles O44: a step leaves the cache as it was or leaves both registers holding a value. -/
theorem onlyResetReturnsTheCacheToNoValue : Obligations.OnlyResetReturnsTheCacheToNoValue := by
  intro s t h hreq
  obtain ⟨hmode, hvalue⟩ | ⟨hmode, hvalue, -⟩ := cacheStep_of_step h hreq
  · rw [hmode, hvalue]
    exact ⟨id, id⟩
  · exact ⟨fun _ => hmode, fun _ => hvalue⟩

/-- Settles O45: a step that is none of the writers leaves both registers as they were. -/
theorem onlyTheseStepsWriteTheCache : Obligations.OnlyTheseStepsWriteTheCache := by
  intro s t h hreq hchanged
  obtain ⟨hmode, hvalue⟩ | ⟨-, -, hwrites⟩ := cacheStep_of_step h hreq
  · simp [hmode, hvalue] at hchanged
  · exact hwrites

end Sys2Proof.Machine
end

section
/-! Single steps with their full next state, and construction. -/

namespace Sys2Proof.Machine

/-! ### The draw reading of an unwritten cache -/

/-- WR_DAC with VALUE unwritten draws it, keeps it and sends it. -/
theorem State.wrDac_of_value_none {s : State} {m : PowerMode} (hm : s.mode = some m)
    (hv : s.value = none) :
    s.wrDac = { s with value := some (Config.freeValue s.draws), draws := s.draws + 1 }.issueWrite
      s.addr (packFast m (Config.freeValue s.draws)) := by
  unfold State.wrDac
  rw [s.keepMode_of_some hm, s.keepValue_of_none hv, s.modeRead_of_some hm, s.valueRead_of_none hv]

/-- WR_DAC with MODE unwritten draws it, keeps it and sends it. -/
theorem State.wrDac_of_mode_none {s : State} {v : DacValue} (hm : s.mode = none)
    (hv : s.value = some v) :
    s.wrDac = { s with mode := some (Config.freeMode s.draws), draws := s.draws + 1 }.issueWrite
      s.addr (packFast (Config.freeMode s.draws) v) := by
  have hkept : s.keepMode.value = some v := by rw [s.keepMode_value, hv]
  unfold State.wrDac
  rw [s.keepMode.keepValue_of_some hkept, s.keepMode.valueRead_of_some hkept,
    s.modeRead_of_none hm, s.keepMode_of_none hm]

/-- Settles O18: the other half of the cache, which the command does not write, is the one drawn. -/
theorem unwrittenCacheIsAFreeValueThatIsKept : Obligations.UnwrittenCacheIsAFreeValueThatIsKept := by
  refine ⟨fun s m hidle hvalue => ?setmode, fun s v hidle hmode => ?wru12⟩
  case setmode =>
    calc exec (.setmode m) s
      _ = .next ((s.accept .setmode false).setMode m).wrDac := State.whenIdle_of_idle hidle
      _ = _ := congrArg Host.Outcome.next (State.wrDac_of_value_none (m := m) rfl hvalue)
  case wru12 =>
    rw [← trunc12_eq_setWidth]
    calc exec (.wru12 v) s
      _ = .next ((s.accept .wru12 false).setValue (trunc12 v)).wrDac := State.whenIdle_of_idle hidle
      _ = _ := congrArg Host.Outcome.next (State.wrDac_of_mode_none (v := trunc12 v) hmode rfl)

/-! ### The ack -/

/-- In W_ACK the ack ends each of the six commands that write. -/
theorem State.takeAck_of_wAck {s : State} (a : Bool) (hphase : s.phase = .wAck)
    (hcur : s.cur ∈ [Command.probe, .gcreset, .gcwake, .setmode, .wru12, .wreeprom]) :
    s.takeAck a = .next (s.finish { status := .ok, ack := a } none) := by
  unfold State.takeAck
  rw [hphase]
  cases h : s.cur <;> simp_all

/-- Settles O22: an ack is no instruction, so the step is the block's own on it. -/
theorem ackEndsTheCommand : Obligations.AckEndsTheCommand := by
  intro s a hreq hphase hbus hcur
  calc step s
    _ = s.settleDevices.otherStep := step_of_fetch_none hreq (State.fetch_of_wrRsp hbus)
    _ = s.settleDevices.takeAck a := by simp [State.otherStep, hbus]
    _ = .next (s.settleDevices.finish { status := .ok, ack := a } none) :=
      State.takeAck_of_wAck a (by simpa using hphase) (by simpa using hcur)
    _ = _ := by simp [State.finish]

/-! ### The step around the instruction -/

/-- At the open port with a request presented, the step is its meaning. -/
theorem step_of_request {s : State} {r : Request} {rest : List Request} (h : s.Ready)
    (hhost : s.host = r :: rest) : step s = exec (decodeRequest r) s.settleDevices :=
  step_of_fetch h.noReset (by rw [State.fetch_of_quiet h.bus h.phase, hhost]; rfl)

/-- A frame to the devices that decodes gives a well-formed instruction. -/
theorem decode_down_wellFormed {target : Target} {f : Frame} {i : Instr}
    (h : decode (.down target f) = .ok i) : WellFormed i := by
  cases target with
  | general => obtain ⟨-, rfl⟩ | ⟨-, rfl⟩ := decodeGeneral_eq_ok h <;> rfl
  | device => obtain ⟨_, _, -, rfl⟩ | ⟨_, _, -, rfl⟩ := decodeDevice_eq_ok h <;> rfl

/-- An answer that decodes gives a well-formed instruction. -/
theorem decode_up_wellFormed {f : Frame} {i : Instr} (h : decode (.up f) = .ok i) :
    WellFormed i := by
  obtain ⟨_, -, rfl⟩ := decodeStatus_eq_ok h
  rfl

/-- Settles O32: each input is what the step fetches, and the decoders answer well-formed instructions. -/
theorem stepRunsTheDecodedInstruction : Obligations.StepRunsTheDecodedInstruction := by
  refine ⟨fun s cw rest hready hhost => ?word, fun s v rest hready hhost => ?write,
    fun s rest hready hhost => ?read, fun s f i hreq hbus hdec => ?general,
    fun s f i hreq haddr hbus hdec => ?device, fun s f i hreq hbus hdec => ?up⟩
  case word => exact ⟨decodeCommand_wellFormed cw, step_of_request hready hhost⟩
  case write => exact step_of_request hready hhost
  case read => exact step_of_request hready hhost
  case general =>
    exact ⟨decode_down_wellFormed hdec,
      step_of_fetch hreq (by rw [State.fetch_of_general hbus, hdec]; rfl)⟩
  case device =>
    exact ⟨decode_down_wellFormed hdec,
      step_of_fetch hreq (by rw [State.fetch_of_device haddr hbus, hdec]; rfl)⟩
  case up =>
    exact ⟨decode_up_wellFormed hdec,
      step_of_fetch hreq (by rw [State.fetch_of_rdRsp hbus, hdec]; rfl)⟩

/-- Settles O34: with nothing at the open port no instruction is at hand, and a quiet bus waits. -/
theorem anOpenPortWaitsUnchanged : Obligations.AnOpenPortWaitsUnchanged := by
  intro s hready hhost
  have hfetch : s.fetch = none := by rw [State.fetch_of_quiet hready.bus hready.phase, hhost]; rfl
  rw [step_of_fetch_none hready.noReset hfetch]
  simp [State.otherStep, hready.bus]

/-! ### Construction -/

/-- Settles O35: CACHE_RESET alone decides what the cache holds; at reset it is none. -/
theorem constructionLeavesTheResetValues : Obligations.ConstructionLeavesTheResetValues := by
  intro p a
  refine ⟨rfl, rfl, rfl, rfl, rfl, fun hnone => ?unwritten, fun m v hsome => ?written, rfl, rfl, rfl⟩
  case unwritten => simp [State.construct, hnone]
  case written => simp [State.construct, hsome]

end Sys2Proof.Machine
end

section
/-! The environment's contract (20_memory.md R57): what an environment that keeps it leaves on the bus, that
every transition keeps it, and that under it the block is never met with an input it refuses. -/

namespace Sys2Proof.Machine

/-- No answer is listed from outside: the environment is unconstrained or made of reference devices. -/
def Env.Unlisted (e : Env) : Prop := ∀ x xs, e ≠ .answers (x :: xs)

/-- What the bus holds is no answer. -/
def Bus.Unanswered (b : Bus) : Prop := b = .quiet ∨ (∃ a f, b = .writing a f) ∨ ∃ a, b = .reading a

variable {s t : State}

/-! ### The contract in its two parts -/

theorem State.contractKept_iff :
    s.contractKept = true ↔ s.env.Unlisted ∧ s.bus.answersPhase s.phase = true := by
  unfold State.contractKept Env.Unlisted
  split <;> simp_all

/-- An answer can break the contract; the absence of one cannot. -/
theorem Bus.Unanswered.answersPhase {b : Bus} (h : b.Unanswered) (p : Phase) :
    b.answersPhase p = true := by
  obtain rfl | ⟨a, f, rfl⟩ | ⟨a, rfl⟩ := h <;> rfl

/-- The contract is kept where the environment is as before and the bus holds no answer. -/
theorem State.contractKept_of_unanswered (henv : s.env.Unlisted) (hset : t.env = s.env)
    (hbus : t.bus.Unanswered) : t.contractKept = true :=
  State.contractKept_iff.mpr ⟨hset ▸ henv, hbus.answersPhase _⟩

/-! ### The phase of a request on the bus -/

theorem State.Inv.phase_of_writing {a : Addr} {f : Frame} (hs : s.Inv) (hbus : s.bus = .writing a f) :
    s.phase = .wAck := by
  have hfits := hs.bus
  rw [hbus] at hfits
  cases h : s.phase <;> simp [h, Bus.fits] at hfits ⊢

theorem State.Inv.phase_of_reading {a : Addr} (hs : s.Inv) (hbus : s.bus = .reading a) :
    s.phase = .wDac ∨ s.phase = .wPoll := by
  have hfits := hs.bus
  rw [hbus] at hfits
  cases h : s.phase <;> simp [h, Bus.fits] at hfits ⊢

/-! ### The environment's own steps -/

/-- Asked for a write, such an environment gives an ack and stays as unlisted as it was. -/
theorem State.serveWrite_of_unlisted (h : s.env.Unlisted) (a : Addr) (f : Frame) :
    (s.serveWrite a f).env.Unlisted ∧ ∃ k, (s.serveWrite a f).bus = .wrRsp k := by
  unfold State.serveWrite
  split
  · exact ⟨h, _, rfl⟩
  · exact absurd ‹_› (h _ _)
  · exact ⟨nofun, _, rfl⟩

/-- Asked for a read, such an environment gives five bytes and stays as unlisted as it was. -/
theorem State.serveRead_of_unlisted (h : s.env.Unlisted) (a : Addr) :
    (s.serveRead a).env.Unlisted ∧ ∃ x, (s.serveRead a).bus = .rdRsp (statusBytes x) := by
  unfold State.serveRead
  split
  · exact ⟨h, _, rfl⟩
  · exact absurd ‹_› (h _ _)
  · exact ⟨nofun, _, rfl⟩

theorem State.deliver_unlisted (h : s.env.Unlisted) : s.deliver.env.Unlisted := by
  unfold State.deliver
  split
  · exact (State.serveWrite_of_unlisted h _ _).1
  · exact (State.serveRead_of_unlisted h _).1
  all_goals exact h

theorem State.settleDevices_unlisted (h : s.env.Unlisted) : s.settleDevices.env.Unlisted := by
  unfold State.settleDevices
  split
  · exact h
  · nofun

/-- The devices' own steps keep the contract. -/
theorem State.settleDevices_contractKept (h : s.contractKept = true) :
    s.settleDevices.contractKept = true := by
  obtain ⟨henv, hbus⟩ := State.contractKept_iff.mp h
  exact State.contractKept_iff.mpr ⟨State.settleDevices_unlisted henv, by simpa using hbus⟩

/-! ### Every transition keeps the contract -/

@[simp] theorem State.wrDac_env (s : State) : s.wrDac.env = s.env := by rw [wrDac_spec]
@[simp] theorem State.writeEeprom_env (s : State) : s.writeEeprom.env = s.env := by
  rw [writeEeprom_spec]
@[simp] theorem State.pollAgain_env (s : State) : s.pollAgain.env = s.env := by
  unfold State.pollAgain; split <;> rfl

/-- An acceptance leaves the environment alone and puts at most a request on the bus. -/
theorem Acceptance.unanswered {i : Instr} (h : Acceptance s i t) (hquiet : s.bus = .quiet) :
    t.env = s.env ∧ t.bus.Unanswered := by
  cases h with
  | illegal => exact ⟨rfl, .inl hquiet⟩
  | write => exact ⟨rfl, .inr (.inl ⟨_, _, rfl⟩)⟩
  | dacRead | poll => exact ⟨rfl, .inr (.inr ⟨_, rfl⟩)⟩
  | setMode | setValue => exact ⟨by simp, .inr (.inl ⟨_, _, State.wrDac_bus _⟩)⟩

/-- After a not-ready frame the bus holds nothing or the next read. -/
theorem State.pollAgain_unanswered (s : State) : s.pollAgain.bus.Unanswered := by
  obtain ⟨-, heq⟩ | ⟨-, heq⟩ := s.pollAgain_cases <;> rw [heq]
  · exact .inl rfl
  · exact .inr (.inr ⟨_, rfl⟩)

theorem Transition.contractKept (h : Transition s t) (hs : s.Inv) (hc : s.contractKept = true) :
    t.contractKept = true := by
  obtain ⟨henv, -⟩ := State.contractKept_iff.mp hc
  cases h with
  | reset => exact State.contractKept_iff.mpr ⟨State.deliver_unlisted henv, rfl⟩
  | wait => exact hc
  | accept hquiet _ _ hacc =>
    obtain ⟨hsame, hbus⟩ := hacc.unanswered hquiet
    exact State.contractKept_of_unanswered henv hsame hbus
  | serveWrite hbus =>
    obtain ⟨henv', k, hk⟩ := State.serveWrite_of_unlisted henv _ _
    refine State.contractKept_iff.mpr ⟨henv', ?_⟩
    simp [hk, Bus.answersPhase, hs.phase_of_writing hbus]
  | serveRead hbus =>
    obtain ⟨henv', x, hx⟩ := State.serveRead_of_unlisted henv _
    refine State.contractKept_iff.mpr ⟨henv', ?_⟩
    obtain hphase | hphase := hs.phase_of_reading hbus <;>
      simp [hx, Bus.answersPhase, hphase, statusBytes, Config.statusLen]
  | ack | loadCache | readEeprom =>
    exact State.contractKept_of_unanswered henv rfl (.inl rfl)
  | pollAgain =>
    exact State.contractKept_of_unanswered henv (State.pollAgain_env s) s.pollAgain_unanswered
  | writeEeprom =>
    exact State.contractKept_of_unanswered henv (State.writeEeprom_env s)
      (.inr (.inl ⟨_, _, s.writeEeprom_bus⟩))

/-! ### Nothing is refused under the contract -/

variable {r : Refusal}

/-- A status frame is no refusal in a phase that waits for one. -/
theorem State.takeStatus_ne_refused {f : StatusFrame} (hphase : s.phase = .wDac ∨ s.phase = .wPoll) :
    s.takeStatus f ≠ .refused r := by
  obtain hphase | hphase := hphase <;> simp only [State.takeStatus, hphase]
  · unfold State.takeDacFrame
    split <;> nofun
  · unfold State.takePollFrame
    split
    · split <;> nofun
    · nofun

/-- An ack is no refusal in W_ACK. -/
theorem State.takeAck_ne_refused {a : Bool} (hphase : s.phase = .wAck) :
    s.takeAck a ≠ .refused r := by
  simp only [State.takeAck, hphase]
  split <;> nofun

/-- The phase of an answer that has the shape it awaits. -/
theorem Bus.answersPhase_rdRsp {p : Phase} {f : Frame} :
    (Bus.rdRsp f).answersPhase p = true ↔
      (p = .wDac ∨ p = .wPoll) ∧ f.length = Config.statusLen := by
  simp [Bus.answersPhase]

/-- Five bytes are a status frame. -/
theorem decodeStatus_of_length {f : Frame} (h : f.length = Config.statusLen) :
    ∃ x, decodeStatus f = .ok (.frameStatus x) := by
  match f, h with
  | [b0, b1, b2, b3, b4], _ => exact ⟨_, rfl⟩

/-- A fetched instruction is not refused: the port is open to a command, and a status frame is awaited. -/
theorem exec_ne_refused {i : Instr} (hbus : s.bus.answersPhase s.phase = true)
    (hfetch : s.fetch = some i) : exec i s ≠ .refused r := by
  obtain ⟨-, hphase, q, rfl⟩ | ⟨a, f, -, hserve⟩ | ⟨x, hx, rfl⟩ := State.fetch_eq_some hfetch
  · obtain ⟨t, -, hexec⟩ := acceptance_decodeRequest q s
    rw [hexec, State.whenIdle_of_idle hphase]
    nofun
  · rw [hserve]
    nofun
  · rw [hx, Bus.answersPhase_rdRsp] at hbus
    exact State.takeStatus_ne_refused hbus.1

/-- A step that runs no instruction refuses nothing: an ack is awaited, and no other answer is left. -/
theorem State.otherStep_ne_refused (hbus : s.bus.answersPhase s.phase = true)
    (hfetch : s.fetch = none) : s.otherStep ≠ .refused r := by
  cases h : s.bus with
  | quiet | writing | reading => simp [State.otherStep, h]
  | wrRsp k =>
    simp only [State.otherStep, h]
    exact State.takeAck_ne_refused (by simpa [Bus.answersPhase, h] using hbus)
  | rdRsp f =>
    rw [h, Bus.answersPhase_rdRsp] at hbus
    obtain ⟨x, hx⟩ := decodeStatus_of_length hbus.2
    rw [State.fetch_of_rdRsp h, decode, hx] at hfetch
    cases hfetch

theorem State.dueWith_exec_ne_refused (hbus : s.bus.answersPhase s.phase = true) :
    s.dueWith exec ≠ .refused r := by
  unfold State.dueWith
  split
  · nofun
  · split
    · exact exec_ne_refused hbus ‹_›
    · exact State.otherStep_ne_refused hbus ‹_›

/-! ### Runs -/

/-- Progress: under the invariant and the contract a step is neither a fault nor refused. -/
theorem step_eq_next_of_contractKept (hs : s.Inv) (hc : s.contractKept = true) :
    ∃ t, step s = .next t := by
  obtain ⟨-, hbus⟩ := State.contractKept_iff.mp (State.settleDevices_contractKept hc)
  cases h : step s with
  | next t => exact ⟨t, rfl⟩
  | fault r => exact absurd h (State.dueWith_exec_ne_fault hs.settleDevices.latch)
  | refused r => exact absurd h (State.dueWith_exec_ne_refused hbus)

/-- Preservation: a step keeps the invariant and the contract. -/
theorem contractKept_of_step (h : step s = .next t) (hs : s.Inv) (hc : s.contractKept = true) :
    t.contractKept = true :=
  (transition_of_step h).contractKept hs.settleDevices (State.settleDevices_contractKept hc)

/-- A run that begins with a step goes on from its next state. -/
theorem run_succ_of_step (h : step s = .next t) (k : Nat) : run (k + 1) s = run k t := by
  have hcore : Sys2Proof.core.step s = .next t := h
  simp only [run, Host.Core.run, hcore]
  rfl

/-- Settles O40, by induction on the number of steps: progress and preservation at each. -/
theorem contractKeepingRunsNeverStop : Obligations.ContractKeepingRunsNeverStop := by
  intro k
  induction k with
  | zero => exact fun s hs hc => ⟨s, rfl, hs, hc⟩
  | succ k ih =>
    intro s hs hc
    obtain ⟨u, hstep⟩ := step_eq_next_of_contractKept hs hc
    rw [run_succ_of_step hstep]
    exact ih u (everyStepKeepsTheInvariant s u hs hstep) (contractKept_of_step hstep hs hc)

end Sys2Proof.Machine
end

section
/-! The bytes of the wire frames read back: what a reference device takes from the block's frames, and what
the block takes from a device's status frame. -/

namespace Sys2Proof.Machine

/-! ### Fields of concatenated bits -/

/-- The middle field of three. -/
theorem extractLsb'_middle {u v w : Nat} (a : BitVec u) (b : BitVec v) (c : BitVec w) :
    (a ++ b ++ c).extractLsb' w v = b := by
  rw [BitVec.extractLsb'_append_eq_of_le le_rfl, Nat.sub_self, BitVec.extractLsb'_append_eq_right]

/-- A value cut in two is its halves put together again. -/
theorem extractLsb'_halves {n lo hi : Nat} (v : BitVec n) (h : hi + lo = n) :
    v.extractLsb' lo hi ++ v.extractLsb' 0 lo = v.cast h.symm := by
  subst h
  rw [BitVec.extractLsb'_append_extractLsb'_eq_extractLsb' (Nat.zero_add lo).symm,
    BitVec.extractLsb'_eq_self, BitVec.cast_eq]

variable (m : PowerMode) (v : DacValue)

/-! ### The block's frames, as a device reads them -/

theorem isFastByte_packFast : isFastByte (0b00#2 ++ m ++ v.extractLsb' 8 4) = true := by
  rw [isFastByte, BitVec.extractLsb'_append_eq_of_le (by decide),
    BitVec.extractLsb'_append_eq_left, beq_self_eq_true]

theorem fastMode_packFast : fastMode (0b00#2 ++ m ++ v.extractLsb' 8 4) = m :=
  extractLsb'_middle _ _ _

theorem fastValue_packFast :
    fastValue (0b00#2 ++ m ++ v.extractLsb' 8 4) (v.extractLsb' 0 8) = v := by
  rw [fastValue, BitVec.extractLsb'_append_eq_right]
  exact extractLsb'_halves v rfl

theorem isEewrByte_packEewr : isEewrByte (0b011#3 ++ 0b00#2 ++ m ++ 0b0#1) = true := by
  rw [isEewrByte, BitVec.extractLsb'_append_eq_of_le (by decide),
    BitVec.extractLsb'_append_eq_of_le (by decide), BitVec.extractLsb'_append_eq_left,
    beq_self_eq_true]

theorem eewrMode_packEewr : eewrMode (0b011#3 ++ 0b00#2 ++ m ++ 0b0#1) = m :=
  extractLsb'_middle _ _ _

theorem eewrValue_packEewr :
    eewrValue (v.extractLsb' 4 8) (v.extractLsb' 0 4 ++ 0b0000#4) = v := by
  rw [eewrValue, BitVec.extractLsb'_append_eq_left]
  exact extractLsb'_halves v rfl

/-! ### A device's status frame, as the block reads it -/

variable (d : Device) (x : StatusFrame)

@[simp] theorem rdy_status : rdy (d.status x) = !d.busy := by
  rw [rdy, Device.status, BitVec.getLsbD_append, BitVec.getLsbD_append, BitVec.getLsbD_append]
  exact BitVec.getLsbD_ofBool _ 0

@[simp] theorem unpackDac_status : unpackDac (d.status x) = (d.dmode, d.dval) := by
  have hmode : (d.status x).b0.extractLsb' 1 2 = d.dmode := extractLsb'_middle _ _ _
  have hlow : (d.status x).b2.extractLsb' 4 4 = d.dval.extractLsb' 0 4 :=
    BitVec.extractLsb'_append_eq_left
  rw [unpackDac, hmode, hlow]
  exact congrArg (Prod.mk d.dmode) (extractLsb'_halves d.dval rfl)

@[simp] theorem unpackEeprom_status : unpackEeprom (d.status x) = (d.emode, d.eval) := by
  have hmode : (d.status x).b3.extractLsb' 5 2 = d.emode := by
    rw [Device.status, BitVec.extractLsb'_append_eq_of_le (by decide)]
    exact extractLsb'_middle _ _ _
  have hhigh : (d.status x).b3.extractLsb' 0 4 = d.eval.extractLsb' 8 4 :=
    BitVec.extractLsb'_append_eq_right
  rw [unpackEeprom, hmode, hhigh]
  exact congrArg (Prod.mk d.emode) (extractLsb'_halves d.eval rfl)

/-- Settles O31: the three fields are disjoint from the bits `x` fills. -/
theorem deviceStatusFrameShowsItsRegisters : Obligations.DeviceStatusFrameShowsItsRegisters :=
  fun d x => ⟨by simp, unpackDac_status d x, unpackEeprom_status d x⟩

end Sys2Proof.Machine
end

section
/-! What the reference device does with each frame of the block, and what a bus of reference devices does
with each request. -/

namespace Sys2Proof.Machine

variable (p : Params) (d : Device) (m : PowerMode) (v : DacValue)

/-! ### General calls at one device (20_memory.md R65) -/

@[simp] theorem Device.takeWrite_gcWake :
    d.takeWrite p Config.broadcast [Config.gcWakeCode] = { d with dmode := 0 } := rfl

@[simp] theorem Device.takeWrite_gcReset :
    d.takeWrite p Config.broadcast [Config.gcResetCode] =
      { d with dmode := d.emode, dval := d.eval } := rfl

theorem Device.takeWrite_broadcast_other {b : Byte} (hwake : b ≠ Config.gcWakeCode)
    (hreset : b ≠ Config.gcResetCode) : d.takeWrite p Config.broadcast [b] = d := by
  rw [Device.takeWrite, if_pos rfl, Device.generalCall, if_neg hwake, if_neg hreset]

@[simp] theorem Device.acks_broadcast : d.acks Config.broadcast = d.present := by
  simp [Device.acks]

/-- Settles O30: the two codes are told apart, and every present device is addressed. -/
theorem deviceTakesGeneralCalls : Obligations.DeviceTakesGeneralCalls :=
  fun p d _ => ⟨d.takeWrite_gcWake p, d.takeWrite_gcReset p, d.takeWrite_broadcast_other p,
    Bool.eq_iff_iff.mp d.acks_broadcast⟩

/-! ### Data frames at one device (20_memory.md R61, R62) -/

/-- A device stores a frame written to address `a`: it is at `a`, and not busy and ignoring writes. -/
abbrev Device.Stores (a : Addr) : Prop :=
  d.devAddr = a ∧ ¬ (d.busy = true ∧ p.devIgnoresWritesWhenBusy = true)

variable {a : Addr}

theorem Device.ignores_iff :
    d.ignores p = true ↔ d.busy = true ∧ p.devIgnoresWritesWhenBusy = true :=
  Bool.and_eq_true_iff

/-- A write elsewhere changes nothing (20_memory.md R66). -/
theorem Device.takeWrite_elsewhere {f : Frame} (ha : a ≠ Config.broadcast) (hown : d.devAddr ≠ a) :
    d.takeWrite p a f = d := by
  simp [Device.takeWrite, ha, hown.symm]

theorem Device.takeWrite_packFast (ha : a ≠ Config.broadcast) :
    d.takeWrite p a (packFast m v) =
      if d.Stores p a then { d with dmode := m, dval := v } else d := by
  by_cases hown : d.devAddr = a
  · simp only [Device.takeWrite, packFast, Device.fastWrite, isFastByte_packFast,
      fastMode_packFast, fastValue_packFast, Device.ignores_iff, Device.Stores, ha, hown, if_true,
      if_false, true_and, ite_not]
  · rw [d.takeWrite_elsewhere p ha hown, if_neg (fun h => hown h.1)]

theorem Device.takeWrite_packEewr (ha : a ≠ Config.broadcast) :
    d.takeWrite p a (packEewr m v) =
      if d.Stores p a then
        { d with
          emode := m, eval := v, busy := true
          dmode := if p.devEewrUpdatesDacreg then m else d.dmode
          dval := if p.devEewrUpdatesDacreg then v else d.dval }
      else d := by
  by_cases hown : d.devAddr = a
  · simp only [Device.takeWrite, packEewr, Device.eewrWrite, isEewrByte_packEewr,
      eewrMode_packEewr, eewrValue_packEewr, Device.ignores_iff, Device.Stores, ha, hown, if_true,
      if_false, true_and, ite_not]
  · rw [d.takeWrite_elsewhere p ha hown, if_neg (fun h => hown h.1)]

theorem Device.stores_of_ready (h : d.busy = false) : d.Stores p d.devAddr :=
  ⟨rfl, by simp [h]⟩

theorem Device.acks_of_ne_broadcast (ha : a ≠ Config.broadcast) :
    d.acks a = (d.devAddr == a && d.present) := by
  rw [Device.acks, beq_eq_false_iff_ne.mpr ha, Bool.false_or, BEq.comm]

/-- Settles O29: the frame is stored, and the status frame shows what is stored. -/
theorem referenceDeviceReturnsWhatItWasSent : Obligations.ReferenceDeviceReturnsWhatItWasSent := by
  intro p d m x xb hready hne
  have hstores := d.stores_of_ready p hready
  refine ⟨?fast, ?eeprom⟩
  case fast => rw [unpackDac_status, d.takeWrite_packFast p m x hne, if_pos hstores]
  case eeprom => rw [unpackEeprom_status, d.takeWrite_packEewr p m x hne, if_pos hstores]

/-! ### Reads at one device (20_memory.md R63) -/

theorem Device.answersRead_eq : d.answersRead a = (d.devAddr == a && d.present) := by
  rw [Device.answersRead, BEq.comm]

theorem Device.afterRead_eq :
    d.afterRead a =
      if d.devAddr = a ∧ d.present = true then { d with xbits := d.xbits.tail } else d := by
  simp [Device.afterRead, Device.answersRead_eq]

/-! ### A request served by the devices on the bus -/

variable {s : State} {ds : List Device}

theorem State.serveWrite_of_devices (h : s.env = .devices ds) (a : Addr) (f : Frame) :
    s.serveWrite a f = { s with
      bus := .wrRsp (ds.any (Device.acks a))
      env := .devices (ds.map (Device.takeWrite s.cfg a f)) } := by
  simp [State.serveWrite, h]

theorem State.serveRead_of_devices (h : s.env = .devices ds) (a : Addr) :
    s.serveRead a = { s with
      bus := .rdRsp (statusBytes (readFrame a s.draws ds))
      env := .devices (ds.map (Device.afterRead a))
      draws := s.draws + 1 } := by
  simp [State.serveRead, h]

/-- With no answer listed, a read is answered by five free bytes (20_memory.md R42). -/
theorem State.serveRead_of_answers_nil (h : s.env = .answers []) (a : Addr) :
    s.serveRead a =
      { s with bus := .rdRsp (statusBytes (Config.freeFrame s.draws)), draws := s.draws + 1 } := by
  simp [State.serveRead, h]

/-- The first present device at the address answers a read. -/
theorem readFrame_of_find_some {n : Nat}
    (h : ds.find? (fun e => e.devAddr == a && e.present) = some d) :
    readFrame a n ds = d.status (d.nextBits n) := by
  rw [readFrame, show Device.answersRead a = _ from funext fun e => e.answersRead_eq, h]

/-- Where no device answers a read, none uses up a choice. -/
theorem map_afterRead_of_find_none (h : ds.find? (fun e => e.devAddr == a && e.present) = none) :
    ds.map (Device.afterRead a) = ds := by
  refine (List.map_congr_left fun d hd => ?_).trans (List.map_id ds)
  have hnot : ¬ (d.devAddr = a ∧ d.present = true) := by
    simpa using List.find?_eq_none.mp h d hd
  rw [Device.afterRead_eq, if_neg hnot, id]

/-- Settles O25: each device takes the call, and each present one acknowledges it. -/
theorem generalCallsReachEveryDevice : Obligations.GeneralCallsReachEveryDevice := by
  intro s ds henv
  have hacks : Device.acks Config.broadcast = (·.present) := funext Device.acks_broadcast
  rw [exec_frameGcWake, exec_frameGcReset, State.serveWrite_of_devices henv,
    State.serveWrite_of_devices henv, hacks, funext (Device.takeWrite_gcWake s.cfg),
    funext (Device.takeWrite_gcReset s.cfg)]
  exact ⟨rfl, rfl⟩

/-- Settles O26: each device takes the frame, and only one that stores it is changed. -/
theorem dataFramesAreStoredByTheDeviceOfTheAddress :
    Obligations.DataFramesAreStoredByTheDeviceOfTheAddress := by
  intro s ds m v henv haddr
  have hacks : Device.acks s.addr = fun d => d.devAddr == s.addr && d.present :=
    funext fun d => d.acks_of_ne_broadcast haddr
  refine ⟨?fast, ?eeprom⟩
  case fast =>
    rw [exec_frameFastwr, State.serveWrite_of_devices henv, hacks,
      List.map_congr_left fun d _ => d.takeWrite_packFast s.cfg m v haddr]
  case eeprom =>
    rw [exec_frameEewr, State.serveWrite_of_devices henv, hacks,
      List.map_congr_left fun d _ => d.takeWrite_packEewr s.cfg m v haddr]

/-! ### The environment's step on an outstanding request -/

/-- A write outstanding is served, after the devices' own steps. -/
theorem step_of_writing {f : Frame} (hreq : s.resetReq = none) (hbus : s.bus = .writing a f) :
    step s = .next (s.settleDevices.serveWrite a f) := by
  cases hfetch : s.fetch with
  | none => rw [step_of_fetch_none hreq hfetch, State.otherStep, s.settleDevices_bus, hbus]
  | some i =>
    rw [step_of_fetch hreq hfetch]
    exact State.exec_of_fetch_writing (by rw [s.settleDevices_bus, hbus])
      (by rw [s.settleDevices_fetch, hfetch])

/-- A read outstanding is served, after the devices' own steps. -/
theorem step_of_reading (hreq : s.resetReq = none) (hbus : s.bus = .reading a) :
    step s = .next (s.settleDevices.serveRead a) := by
  have hfetch : s.fetch = none := by simp [State.fetch, State.busCode, State.portRequest, hbus]
  rw [step_of_fetch_none hreq hfetch, State.otherStep, s.settleDevices_bus, hbus]

/-- Settles O28: the read is served by the first device that answers it, or by bytes of no stated value. -/
theorem readsAreAnsweredByTheDeviceOfTheAddress :
    Obligations.ReadsAreAnsweredByTheDeviceOfTheAddress := by
  rintro s u hreq hbus rfl
  rw [step_of_reading hreq hbus]
  refine ⟨fun ds d henv hfind => ?answered, fun ds henv hfind => ?nobody, fun henv => ?free⟩
  case answered =>
    rw [State.serveRead_of_devices henv, readFrame_of_find_some d hfind,
      List.map_congr_left fun e _ => e.afterRead_eq]
  case nobody =>
    rw [State.serveRead_of_devices henv, map_afterRead_of_find_none hfind, ← henv]
    exact ⟨_, rfl⟩
  case free =>
    rw [State.serveRead_of_answers_nil henv]
    exact ⟨_, rfl⟩

/-! ### The devices' own steps (20_memory.md R64) -/

/-- The choice of a device's own step ends its busy state or leaves it as it is. -/
theorem Device.settle_eq (n : Nat) :
    d.settle n =
      { d with busy := if d.endsNow n then false else d.busy, busyEnds := d.busyEnds.tail } := by
  unfold Device.settle
  cases d.endsNow n <;> simp

theorem Device.endsNow_of_cons {n : Nat} {b : Bool} {bs : List Bool} (h : d.busyEnds = b :: bs) :
    d.endsNow n = b := by
  rw [Device.endsNow, h]

/-- The first choice of its list is the one a device's own step takes. -/
theorem Device.settle_of_cons {n : Nat} {b : Bool} {bs : List Bool} (h : d.busyEnds = b :: bs) :
    d.settle n = { d with busy := if b then false else d.busy, busyEnds := bs } := by
  rw [d.settle_eq, d.endsNow_of_cons h, h, List.tail_cons]

/-- Settles O57: the devices' own steps are the first part of a step, and the whole of an idle one. -/
theorem aDeviceMayBecomeReadyAtAnyStep : Obligations.ADeviceMayBecomeReadyAtAnyStep := by
  refine ⟨fun _ => rfl, fun s ds henv => State.settleDevices_of_devices henv,
    fun n d b bs hends => d.settle_of_cons hends, fun n d => ⟨d.endsNow n, d.settle_eq n⟩,
    fun s d b bs hready hhost henv hbusy hends => ?_⟩
  have hsettle : d.settle s.draws = { d with busy := !b, busyEnds := bs } := by
    rw [d.settle_of_cons hends, hbusy]
    cases b <;> rfl
  rw [anOpenPortWaitsUnchanged s hready hhost, State.settleDevices_of_devices henv, List.map_singleton,
    hsettle]

end Sys2Proof.Machine
end

section
/-! Whole commands against one reference device: the fast write of WR_DAC up to its response, the read of
RD_DAC up to its response, and one after the other. -/

namespace Sys2Proof.Machine

variable {s t u : State} {d : Device}

/-! ### Runs, step by step -/

theorem run_one_of_step (h : step s = .next t) : run 1 s = .next t := run_succ_of_step h 0

/-- A run that arrives has made its first step. -/
theorem run_succ_eq_next {k : Nat} (h : run (k + 1) s = .next t) :
    ∃ u, step s = .next u ∧ run k u = .next t := by
  cases hstep : step s with
  | next u => exact ⟨u, rfl, (run_succ_of_step hstep k).symm.trans h⟩
  | fault | refused =>
    have hcore : Sys2Proof.core.step s = _ := hstep
    simp [run, Host.Core.run, hcore] at h

/-- A run goes on from where its first part arrives. -/
theorem run_add_of_run {j : Nat} (h : run j s = .next t) (k : Nat) : run (j + k) s = run k t := by
  induction j generalizing s with
  | zero => cases h; rw [Nat.zero_add]
  | succ j ih =>
    obtain ⟨u, hstep, hrest⟩ := run_succ_eq_next h
    rw [Nat.add_right_comm, run_succ_of_step hstep, ih hrest]

/-! ### Single steps with one device on the bus -/

/-- A device of ADDR that is not busy stores the fast write and gives the ack of its presence. -/
theorem step_of_fastWrite_at_device {m : PowerMode} {v : DacValue} (hreq : s.resetReq = none)
    (hbus : s.bus = .writing s.addr (packFast m v)) (haddr : s.addr ≠ Config.broadcast)
    (henv : s.env = .devices [d]) (hown : d.devAddr = s.addr) (hready : d.busy = false) :
    step s = .next { s with
      bus := .wrRsp d.present
      env := .devices [{ d.settle s.draws with dmode := m, dval := v }]
      draws := s.draws + 1 } := by
  have hstores : (d.settle s.draws).Stores s.cfg s.addr := by
    simp [Device.Stores, hown, d.settle_busy_of_not _ hready]
  have hack : (d.settle s.draws).acks s.addr = d.present := by
    simp [Device.acks_of_ne_broadcast _ haddr, hown]
  rw [step_of_writing hreq hbus, State.settleDevices_of_devices henv,
    State.serveWrite_of_devices rfl, List.map_singleton, List.map_singleton, List.any_cons,
    List.any_nil, Bool.or_false, hack, Device.takeWrite_packFast _ _ _ _ haddr, if_pos hstores]

/-- The ack ends a command that writes; the device on the bus may have become ready. -/
theorem step_of_ack_at_device {a : Bool} (hreq : s.resetReq = none) (hphase : s.phase = .wAck)
    (hbus : s.bus = .wrRsp a)
    (hcur : s.cur ∈ [Command.probe, .gcreset, .gcwake, .setmode, .wru12, .wreeprom])
    (henv : s.env = .devices [d]) :
    step s = .next ({ s with env := .devices [d.settle s.draws], draws := s.draws + 1 }.finish
      { status := .ok, ack := a } none) := by
  rw [ackEndsTheCommand s a hreq hphase hbus hcur, State.settleDevices_of_devices henv]
  rfl

/-- A present device of ADDR answers the read with a status frame that shows its DAC register. -/
theorem step_of_reading_at_device (hreq : s.resetReq = none) (hbus : s.bus = .reading s.addr)
    (henv : s.env = .devices [d]) (hown : d.devAddr = s.addr) (hpresent : d.present = true) :
    ∃ f e n, step s = .next { s with bus := .rdRsp (statusBytes f), env := e, draws := n } ∧
      unpackDac f = (d.dmode, d.dval) := by
  have hfind : [d.settle s.draws].find? (fun e => e.devAddr == s.addr && e.present) =
      some (d.settle s.draws) := by simp [hown, hpresent]
  have hstep := (readsAreAnsweredByTheDeviceOfTheAddress s _ hreq hbus rfl).1 _ _
    (by rw [State.settleDevices_of_devices henv, List.map_singleton]) hfind
  rw [hstep, State.settleDevices_of_devices henv]
  exact ⟨_, _, _, rfl, unpackDac_status _ _⟩

/-- A status frame on the bus is taken, after the devices' own steps. -/
theorem step_of_statusFrame {f : StatusFrame} (hreq : s.resetReq = none)
    (hbus : s.bus = .rdRsp (statusBytes f)) : step s = s.settleDevices.takeStatus f :=
  step_of_fetch hreq (State.fetch_of_rdRsp hbus)

/-- The status frame of RD_DAC ends RDVAL, or the READ that issued it. -/
theorem step_of_dacFrame_of_rdval {f : StatusFrame} {b : Bool} (hreq : s.resetReq = none)
    (hphase : s.phase = .wDac) (hcur : s.cur = .rdval) (hvia : s.viaRead = b)
    (hbus : s.bus = .rdRsp (statusBytes f)) :
    step s = .next ((s.settleDevices.loadCache (unpackDac f)).finish
      { status := .ok, value := (unpackDac f).2 }
      (if b then some (u12ToNorm (unpackDac f).2) else none)) := by
  rw [step_of_statusFrame hreq hbus]
  simp only [State.takeStatus, State.takeDacFrame, s.settleDevices_phase, hphase,
    s.settleDevices_cur, hcur, s.settleDevices_viaRead, hvia]

/-! ### WR_DAC up to its response -/

@[simp] theorem State.wrDac_host (s : State) : s.wrDac.host = s.host := by rw [wrDac_spec]
@[simp] theorem State.wrDac_outputs (s : State) :
    s.wrDac.outputs = .busWrite s.addr (packFast s.modeRead s.keepMode.valueRead) :: s.outputs := by
  rw [wrDac_spec]

/-- What WR_DAC, begun in `u` with the device `d` alone on the bus, leaves when its command has ended: the
port open, the cache and the device's DAC register holding the same pair, and the device's ack put out. -/
structure FastWritten (u : State) (d : Device) (t : State) (d' : Device) : Prop where
  ready : t.Ready
  host : t.host = u.host
  addr : t.addr = u.addr
  mode : t.mode = some u.modeRead
  value : t.value = some u.keepMode.valueRead
  env : t.env = .devices [d']
  devAddr : d'.devAddr = d.devAddr
  present : d'.present = d.present
  notBusy : d'.busy = false
  dmode : d'.dmode = u.modeRead
  dval : d'.dval = u.keepMode.valueRead
  outputs : t.outputs = .done { status := .ok, ack := d.present } none
    :: .busWrite u.addr (packFast u.modeRead u.keepMode.valueRead) :: u.outputs

/-- Three steps: the acceptance, the environment's step on the fast write, the block's step on the ack. -/
theorem fastWritten_of_step_wrDac (hstep : step s = .next u.wrDac) (hreq : u.resetReq = none)
    (hcur : u.cur = .setmode ∨ u.cur = .wru12) (haddr : u.addr ≠ Config.broadcast)
    (henv : u.env = .devices [d]) (hown : d.devAddr = u.addr) (hready : d.busy = false) :
    ∃ t d', run 3 s = .next t ∧ FastWritten u d t d' := by
  have hserve := step_of_fastWrite_at_device (s := u.wrDac) (m := u.modeRead)
    (v := u.keepMode.valueRead) (by simpa using hreq) (by simp)
    (by simpa using haddr) (by simpa using henv) (by simpa using hown) hready
  have hack := step_of_ack_at_device
    (s := { u.wrDac with
      bus := .wrRsp d.present
      env := .devices [{ d.settle u.wrDac.draws with dmode := u.modeRead, dval := u.keepMode.valueRead }]
      draws := u.wrDac.draws + 1 })
    (by simpa using hreq) (by simp) rfl (by obtain h | h := hcur <;> simp [h]) rfl
  have hrun := (run_succ_of_step hstep 2).trans
    ((run_succ_of_step hserve 1).trans (run_one_of_step hack))
  refine ⟨_, _, hrun, ⟨⟨rfl, rfl, ?_⟩, ?_, ?_, ?_, ?_, rfl, rfl, rfl, ?_, rfl, rfl, ?_⟩⟩
  all_goals simp [hreq, Device.settle_busy_of_not, hready]

/-! ### RD_DAC up to its response -/

/-- Three steps: the acceptance of RDVAL or READ, the environment's step on the read, the block's step on the
frame. Both cache registers show the DAC register of the present device of ADDR. -/
theorem run_of_step_rdDac (hstep : step s = .next u.rdDac) (hreq : u.resetReq = none)
    (hcur : u.cur = .rdval) (henv : u.env = .devices [d]) (hown : d.devAddr = u.addr)
    (hpresent : d.present = true) :
    ∃ t, run 3 s = .next t ∧ t.Ready ∧ t.host = u.host ∧ t.mode = some d.dmode ∧
      t.value = some d.dval ∧
      t.outputs = .done { status := .ok, value := d.dval }
          (if u.viaRead then some (u12ToNorm d.dval) else none)
        :: .busRead u.addr Config.statusLen :: u.outputs := by
  obtain ⟨f, e, n, hserve, hunpack⟩ :=
    step_of_reading_at_device (s := u.rdDac) hreq rfl henv hown hpresent
  have hframe := step_of_dacFrame_of_rdval
    (s := { u.rdDac with bus := .rdRsp (statusBytes f), env := e, draws := n }) hreq rfl hcur
    u.rdDac_viaRead rfl
  rw [hunpack] at hframe
  have hrun := (run_succ_of_step hstep 2).trans
    ((run_succ_of_step hserve 1).trans (run_one_of_step hframe))
  refine ⟨_, hrun, ⟨rfl, rfl, ?_⟩, ?_, rfl, rfl, ?_⟩
  all_goals simp [hreq]

/-! ### WRU12, then RDVAL -/

/-- WRU12's word with the operand `x` (30_encoding.md R72, R73). -/
theorem packCommand_wru12 (x : BitVec 16) :
    (0x600000 ||| x.setWidth 24 : CmdWord) = packCommand 6 0 0 x := by
  apply BitVec.eq_of_getLsbD_eq
  intro i hi
  simp only [packCommand, BitVec.getLsbD_append, BitVec.getLsbD_or, BitVec.getLsbD_setWidth]
  interval_cases i <;> simp

theorem decodeCommand_wru12 (x : BitVec 16) :
    decodeCommand (0x600000 ||| x.setWidth 24) = .wru12 x := by
  rw [packCommand_wru12, decodeCommand_packCommand]
  rfl

/-- WRU12 leaves the low 12 bits of its operand for WR_DAC to send, whether MODE is held or drawn. -/
theorem State.keepMode_valueRead_setValue (v : DacValue) :
    (s.setValue v).keepMode.valueRead = v :=
  State.valueRead_of_some _ (by simp)

/-- Settles O55: the device holds what WRU12 wrote when RDVAL reads it. -/
theorem rawWriteReadsBackItsLowTwelveBits : Obligations.RawWriteReadsBackItsLowTwelveBits := by
  intro s x rest d hready hhost henv hown haddr hpresent hbusy
  have hstep : step s =
      .next ((s.settleDevices.accept .wru12 false).setValue (trunc12 x)).wrDac := by
    rw [step_of_request hready hhost, decodeRequest, decodeCommand_wru12]
    exact State.whenIdle_of_idle (by simpa using hready.phase)
  have hsettled : s.settleDevices.env = .devices [d.settle s.draws] := by
    rw [State.settleDevices_of_devices henv, List.map_singleton]
  obtain ⟨t, d', hwrite, hw⟩ := fastWritten_of_step_wrDac hstep (by simpa using hready.noReset)
    (.inr rfl) (by simpa using haddr) hsettled (by simpa using hown)
    (d.settle_busy_of_not _ hbusy)
  have hhost' : t.host = .word 0x500000 :: rest := by rw [hw.host]; simp [hhost]
  have hdval : d'.dval = x.setWidth 12 := by
    rw [hw.dval, State.keepMode_valueRead_setValue, trunc12_eq_setWidth]
  have hstep' : step t = .next (t.settleDevices.accept .rdval false).rdDac := by
    rw [step_of_request hw.ready hhost']
    exact State.whenIdle_of_idle (by simpa using hw.ready.phase)
  obtain ⟨t', hread, hready', hrest, -, hvalue, hout⟩ :=
    run_of_step_rdDac (d := d'.settle t.draws) hstep' (by simpa using hw.ready.noReset) rfl
      (by rw [State.accept_env, State.settleDevices_of_devices hw.env, List.map_singleton])
      (by simp [hw.devAddr, hw.addr, hown]) (by simpa using hw.present.trans hpresent)
  refine ⟨t', (run_add_of_run hwrite 3).trans hread, hready'.phase, ?_, ?_, ?_⟩
  · rw [hrest]; simp [hhost']
  · rw [hvalue, Device.settle_dval, hdval]
  · rw [hout]; simp [hdval]

end Sys2Proof.Machine
end

section
/-! Decoding what was encoded, and the rows of the command words. -/

namespace Sys2Proof.Machine

/-! ### Command words -/

/-- A word whose reserved field is zero is decoded by its opcode (30_encoding.md R74). -/
theorem decodeCommand_packCommand_zero (op : BitVec 4) (m : PowerMode) (v : BitVec 16) :
    decodeCommand (packCommand op 0 m v) = decodeOpcode op m v := by
  rw [decodeCommand_packCommand]
  exact if_pos rfl

theorem decodeCommand_of_rsv_zero {cw : CmdWord} (h : cwRsv cw = 0#2) :
    decodeCommand cw = decodeOpcode (cwOp cw) (cwMode cw) (cwValue cw) :=
  if_pos h

/-- A word whose reserved field is not zero is RESERVED_RSV with its own fields (30_encoding.md R91). -/
theorem decodeCommand_packCommand_rsv {rsv : BitVec 2} (h : rsv ≠ 0#2) (op : BitVec 4)
    (m : PowerMode) (v : BitVec 16) :
    decodeCommand (packCommand op rsv m v) = .reservedRsv op rsv m v := by
  rw [decodeCommand_packCommand, if_neg h]

/-! ### Frames to the device -/

/-- The device's decoder takes a fast write apart again (30_encoding.md R80). -/
theorem decodeDevice_packFast (m : PowerMode) (v : DacValue) :
    decodeDevice (packFast m v) = .ok (.frameFastwr m v) := by
  rw [packFast, decodeDevice, if_pos (isFastByte_packFast m v), fastMode_packFast,
    fastValue_packFast]

/-- The device's decoder takes an EEPROM write apart again (30_encoding.md R81). -/
theorem decodeDevice_packEewr (m : PowerMode) (v : DacValue) :
    decodeDevice (packEewr m v) = .ok (.frameEewr m v) := by
  rw [packEewr, decodeDevice, eewrMode_packEewr, eewrValue_packEewr]
  exact if_pos rfl

/-- Settles O1: each row's code is the packing of its fields, and each decoder reads its own packing
back; WRITE and READ have the words of the rows they expand to. -/
theorem decodeOfEncodeGivesTheInstruction : Obligations.DecodeOfEncodeGivesTheInstruction := by
  intro i hi
  cases i with
  | reservedRsv op rsv m v =>
    exact congrArg Except.ok (decodeCommand_packCommand_rsv (bne_iff_ne.mp hi) op m v)
  | frameGcReset | frameGcWake | frameStatus => rfl
  | frameFastwr m v => exact decodeDevice_packFast m v
  | frameEewr m v => exact decodeDevice_packEewr m v
  | _ => exact congrArg Except.ok (decodeCommand_packCommand_zero _ _ _)

/-- Settles O11: the decoders evaluated at each word. -/
theorem wordsOfTheSpecDecodeToTheirInstructions :
    Obligations.WordsOfTheSpecDecodeToTheirInstructions :=
  ⟨rfl, rfl, rfl, rfl, rfl, rfl, rfl, rfl⟩

/-! ### Rows by mask and match (30_encoding.md R72) -/

/-- The word of an opcode's instruction holds that opcode and a zero reserved field. -/
theorem encode_decodeOpcode (op : BitVec 4) (m : PowerMode) (v : BitVec 16) :
    ∃ m' v', encode (decodeOpcode op m v) = .command (packCommand op 0 m' v') := by
  obtain ⟨⟨n, hn⟩⟩ := op
  interval_cases n <;> exact ⟨_, _, rfl⟩

/-- No two opcodes stand for the same instruction. -/
theorem decodeOpcode_inj {op op' : BitVec 4} {m : PowerMode} {v : BitVec 16} :
    decodeOpcode op m v = decodeOpcode op' m v ↔ op = op' := by
  refine ⟨fun h => ?_, fun h => h ▸ rfl⟩
  obtain ⟨m₁, v₁, h₁⟩ := encode_decodeOpcode op m v
  obtain ⟨m₂, v₂, h₂⟩ := encode_decodeOpcode op' m v
  have hword : packCommand op 0 m₁ v₁ = packCommand op' 0 m₂ v₂ := by
    simpa [h₁, h₂] using congrArg encode h
  simpa using congrArg cwOp hword

theorem decodeOpcode_ne_reservedRsv {op op' : BitVec 4} {rsv : BitVec 2} {m m' : PowerMode}
    {v v' : BitVec 16} : decodeOpcode op m v ≠ .reservedRsv op' rsv m' v' := by
  unfold decodeOpcode
  split <;> exact Instr.noConfusion

/-- What the mask keeps of a word is the match of a row when the opcode is the row's and the reserved
field is zero. -/
theorem and_mask_eq_iff (cw : CmdWord) (op : BitVec 4) :
    cw &&& 0xFC0000 = packCommand op 0 0 0 ↔ cwRsv cw = 0#2 ∧ cwOp cw = op := by
  have hmask : cw &&& 0xFC0000 = packCommand (cwOp cw) (cwRsv cw) 0 0 := by
    conv_lhs => rw [← packCommand_fields cw]
    exact packCommand_and_mask _ _ _ _
  rw [hmask]
  constructor
  · intro h
    exact ⟨by simpa using congrArg cwRsv h, by simpa using congrArg cwOp h⟩
  · rintro ⟨hrsv, hop⟩
    rw [hrsv, hop]
    rfl

/-- A word decodes to an opcode's row, with its own operand fields, for that opcode and a zero reserved
field alone. -/
theorem decodeCommand_eq_decodeOpcode_iff (cw : CmdWord) (op : BitVec 4) :
    decodeCommand cw = decodeOpcode op (cwMode cw) (cwValue cw) ↔
      cwRsv cw = 0#2 ∧ cwOp cw = op := by
  by_cases hrsv : cwRsv cw = 0#2
  · rw [decodeCommand_of_rsv_zero hrsv, decodeOpcode_inj]
    exact (and_iff_right hrsv).symm
  · rw [decodeCommand, if_neg hrsv]
    exact iff_of_false decodeOpcode_ne_reservedRsv.symm fun ⟨h, _⟩ => hrsv h

/-- A word selects the row of an opcode exactly when `w & mask = match`. -/
theorem selects_row_iff (cw : CmdWord) (op : BitVec 4) :
    cw &&& 0xFC0000 = packCommand op 0 0 0 ↔
      decodeCommand cw = decodeOpcode op (cwMode cw) (cwValue cw) :=
  (and_mask_eq_iff cw op).trans (decodeCommand_eq_decodeOpcode_iff cw op).symm

/-- The opcodes from 9 up are the seven reserved rows (30_encoding.md R90). -/
theorem decodeOpcode_reserved {op : BitVec 4} (h : 9 ≤ op) (m : PowerMode) (v : BitVec 16) :
    decodeOpcode op m v ∈ [Instr.reserved9, .reservedA, .reservedB, .reservedC, .reservedD,
      .reservedE, .reservedF] := by
  have hop : 9 ≤ op.toNat := h
  unfold decodeOpcode
  split
  case h_1 | h_2 | h_3 | h_4 | h_5 | h_6 | h_7 | h_8 | h_9 => omega
  all_goals simp

/-- Settles O3: the nine rows are the opcodes 0 to 8, the match of each its opcode's word. -/
theorem commandRowsAreSelectedByMaskAndMatch :
    Obligations.CommandRowsAreSelectedByMaskAndMatch := by
  intro cw
  refine ⟨selects_row_iff cw 0, selects_row_iff cw 1, selects_row_iff cw 2, selects_row_iff cw 3,
    selects_row_iff cw 4, selects_row_iff cw 5, selects_row_iff cw 6, selects_row_iff cw 7,
    selects_row_iff cw 8, fun hop hrsv => ?_⟩
  rw [decodeCommand_of_rsv_zero hrsv]
  exact decodeOpcode_reserved hop _ _

/-! ### Unused fields (30_encoding.md R75) -/

/-- An opcode other than those of SETMODE, WRU12 and WREEPROM uses no field. -/
theorem decodeOpcode_of_no_operand {op : BitVec 4} (h4 : op ≠ 4) (h6 : op ≠ 6) (h8 : op ≠ 8)
    (m m' : PowerMode) (v v' : BitVec 16) : decodeOpcode op m v = decodeOpcode op m' v' := by
  unfold decodeOpcode
  split
  case h_5 h => exact absurd (BitVec.eq_of_toNat_eq h) h4
  case h_7 h => exact absurd (BitVec.eq_of_toNat_eq h) h6
  case h_9 h => exact absurd (BitVec.eq_of_toNat_eq h) h8
  all_goals rfl

/-- Settles O4: the words differ at most in fields that their common opcode does not use. -/
theorem unusedFieldsAreIgnored : Obligations.UnusedFieldsAreIgnored := by
  intro cw cw' hrsv hrsv' hop _
  rw [decodeCommand_of_rsv_zero hrsv, decodeCommand_of_rsv_zero hrsv', ← hop]
  refine ⟨fun h4 h6 h8 => decodeOpcode_of_no_operand h4 h6 h8 _ _ _ _, fun h4 hmode => ?setmode,
    fun h6 hvalue => ?wru12⟩
  case setmode => rw [h4, hmode]; rfl
  case wru12 => rw [h6, hvalue]; rfl

end Sys2Proof.Machine
end

section
/-! The opcode table's numbers: each code word read back from its number, and laid where the step fetches
it. -/

namespace Sys2Proof.Machine

/-! ### The bytes of a number -/

/-- The lowest byte of a number is the one appended last. -/
theorem byteOf_append_zero (n : Nat) (b : Byte) : byteOf (n * 256 + b.toNat) 0 = b := by
  apply BitVec.eq_of_toNat_eq
  have hb := b.isLt
  simp only [byteOf, BitVec.toNat_ofNat]
  omega

/-- The bytes above the one appended last are those of the number it was appended to. -/
theorem byteOf_append_succ (n k : Nat) (b : Byte) :
    byteOf (n * 256 + b.toNat) (k + 1) = byteOf n k := by
  have hb := b.isLt
  have hdiv : (n * 256 + b.toNat) / 256 = n := by omega
  rw [byteOf, Nat.pow_succ', ← Nat.div_div_eq_div_mul, hdiv, byteOf]

/-! ### The code words that the table's numbers stand for -/

/-- The shapes of a code word with a number of its own: all but the three bytes of FRAME_EEWR, which are
read as a command word (log entry 15). -/
inductive TableShape : Code → Prop
  | command (cw : CmdWord) : TableShape (.command cw)
  | generalCall (b : Byte) : TableShape (.down .general [b])
  | fastWrite (b0 b1 : Byte) : TableShape (.down .device [b0, b1])
  | status (f : StatusFrame) : TableShape (.up (statusBytes f))

/-- The width and the number of such a code word give it back. -/
theorem TableShape.tableCode_eq {c : Code} (h : TableShape c) :
    tableCode (codeWidth c) (codeNumber c) = some c := by
  cases h with
  | command cw =>
    have hword : BitVec.ofNat 24 cw.toNat = cw := by rw [BitVec.ofNat_toNat, BitVec.setWidth_eq]
    exact congrArg (some ∘ Code.command) hword
  | generalCall | fastWrite | status =>
    simp only [codeWidth, codeNumber, frameNumber, statusBytes, List.foldl, List.length,
      tableCode, byteOf_append_zero, byteOf_append_succ]

/-- The codes of all rows but FRAME_EEWR are of these shapes. -/
theorem tableShape_encode {i : Instr} (hi : ∀ m v, i ≠ .frameEewr m v) : TableShape (encode i) := by
  cases i with
  | frameGcReset | frameGcWake => exact .generalCall _
  | frameFastwr m v => exact .fastWrite _ _
  | frameEewr m v => exact absurd rfl (hi m v)
  | frameStatus f => exact .status f
  | _ => exact .command _

/-! ### A code word laid where the step fetches it -/

/-- A status frame is laid on the bus, whether or not the block already waits for one. -/
theorem State.withCode_up_bus (f : Frame) (s : State) : (s.withCode (.up f)).bus = .rdRsp f := by
  simp only [State.withCode]
  split <;> rfl

/-- Placing a code word withdraws a raised reset, which would come before it. -/
theorem State.withCode_resetReq (c : Code) (s : State) : (s.withCode c).resetReq = none := by
  cases c with
  | command => rfl
  | down target => cases target <;> rfl
  | up f =>
    simp only [State.withCode]
    split <;> rfl

/-- The placed code word is the one fetched; a frame to the device is told from a general call by ADDR. -/
theorem State.withCode_fetch {c : Code} {s : State} (haddr : s.addr ≠ Config.broadcast) :
    (s.withCode c).fetch = (decode c).toOption := by
  cases c with
  | command cw => exact State.fetch_of_quiet rfl rfl
  | down target f =>
    cases target with
    | general => exact State.fetch_of_general rfl
    | device => exact State.fetch_of_device haddr rfl
  | up f => exact State.fetch_of_rdRsp (State.withCode_up_bus f s)

/-- Settles O2: the number gives back the code word, whose decoding is O1, and which is the one fetched
where it is laid. -/
theorem placedTableWordIsWhatTheStepRuns : Obligations.PlacedTableWordIsWhatTheStepRuns := by
  intro i s hwf hi haddr
  have hcode := (tableShape_encode hi).tableCode_eq
  have hdecode := decodeOfEncodeGivesTheInstruction i hwf
  have hplaced : s.withFetchWord (codeWidth (encode i)) (codeNumber (encode i)) =
      s.withCode (encode i) := by rw [State.withFetchWord, hcode]
  have hfetch : (s.withCode (encode i)).fetch = some (expand i) := by
    rw [State.withCode_fetch haddr, hdecode]
    rfl
  constructor
  · rw [decodeTableWord, hcode]
    simp only [hdecode]
  · rw [hplaced]
    exact step_of_fetch (State.withCode_resetReq _ s) hfetch

end Sys2Proof.Machine
end

section
/-! The reserved rows, and what a step puts out. -/

namespace Sys2Proof.Machine

/-- Settles O21: every reserved row's meaning is to raise ILLEGAL, which the port takes in IDLE. -/
theorem everyReservedRowCompletesWithIllegal : Obligations.EveryReservedRowCompletesWithIllegal := by
  intro s hidle
  have hraise : s.whenIdle s.raiseIllegal = .next s.raiseIllegal := State.whenIdle_of_idle hidle
  refine ⟨fun i hi => ?_, fun op rsv m v => hraise⟩
  simp only [List.mem_cons, List.not_mem_nil, or_false] at hi
  obtain rfl | rfl | rfl | rfl | rfl | rfl | rfl := hi <;> exact hraise

section Outputs
variable {s t : State}

/-- The outputs the block may emit (20_memory.md R43, R44, 30_encoding.md R89): a legal write, a read of
one status frame at ADDR, or a completion. -/
def Output.Legal (addr : Addr) : Output → Prop
  | .busWrite a f => LegalWrite addr a f
  | .busRead a n => a = addr ∧ n = Config.statusLen
  | .done _ _ => True

/-- What a step can add to the outputs: nothing, or one legal output. -/
def State.OutputStep (s t : State) : Prop :=
  t.outputs = s.outputs ∨ ∃ o, t.outputs = o :: s.outputs ∧ o.Legal s.addr

@[simp] theorem State.writeEeprom_outputs (s : State) :
    s.writeEeprom.outputs = .busWrite s.addr (packEewr s.lm s.lv) :: s.outputs := by
  rw [writeEeprom_spec]

/-- A step that puts out one legal write. -/
theorem State.OutputStep.of_write {a : Addr} {f : Frame}
    (h : t.outputs = .busWrite a f :: s.outputs) (hlegal : LegalWrite s.addr a f) : s.OutputStep t :=
  .inr ⟨_, h, hlegal⟩

/-- A step that puts out a read of one status frame at ADDR. -/
theorem State.OutputStep.of_read
    (h : t.outputs = .busRead s.addr Config.statusLen :: s.outputs) : s.OutputStep t :=
  .inr ⟨_, h, rfl, rfl⟩

/-- A step that puts out a completion. -/
theorem State.OutputStep.of_done {r : Rsp} {n : Option NormNum}
    (h : t.outputs = .done r n :: s.outputs) : s.OutputStep t :=
  .inr ⟨_, h, trivial⟩

/-- A not-ready frame is followed by TIMEOUT or by the next read. -/
theorem State.outputStep_pollAgain (s : State) : s.OutputStep s.pollAgain := by
  obtain ⟨-, h⟩ | ⟨-, h⟩ := s.pollAgain_cases
  · exact .of_done (congrArg State.outputs h)
  · exact .of_read (congrArg State.outputs h)

theorem Acceptance.outputStep {i : Instr} (h : Acceptance s i t) : s.OutputStep t := by
  cases h with
  | illegal => exact .of_done rfl
  | write _ hlegal => exact .of_write rfl hlegal
  | dacRead | poll => exact .of_read rfl
  | setMode | setValue => exact .of_write (State.wrDac_outputs _) (legalWrite_packFast _ _ _)

theorem Transition.outputStep (h : Transition s t) : s.OutputStep t := by
  cases h with
  | reset | wait => exact .inl rfl
  | accept _ _ _ hacc => exact hacc.outputStep
  | serveWrite => exact .inl (s.serveWrite_outputs _ _)
  | serveRead => exact .inl (s.serveRead_outputs _)
  | ack | loadCache | readEeprom => exact .of_done rfl
  | pollAgain => exact s.outputStep_pollAgain
  | writeEeprom => exact .of_write s.writeEeprom_outputs (legalWrite_packEewr _ _ _)

end Outputs

/-- Settles O41: every transition adds at most one output, and a legal one. -/
theorem theBlockTransmitsNoOtherFrame : Obligations.TheBlockTransmitsNoOtherFrame := by
  intro s t h
  have hstep : s.OutputStep t := by
    simpa [State.OutputStep] using (transition_of_step h).outputStep
  refine hstep.imp_right fun ⟨o, ho, hlegal⟩ =>
    ⟨o, ho, fun a f hwrite => ?write, fun a n hread => ?read⟩
  case write => subst hwrite; exact hlegal
  case read => subst hread; exact hlegal

end Sys2Proof.Machine
end

section
/-! Where the fields of a frame and of the response word stand, and the source formulas for them. -/

namespace Sys2Proof.Machine

/-! ### Fields by shift and mask -/

section Fields
variable {w l n s i : Nat}

/-- A bit of a word is a bit of the field it stands in. -/
theorem getLsbD_of_field {x : BitVec w} {field : BitVec l} (h : x.extractLsb' s l = field)
    (hi : i < l) : x.getLsbD (s + i) = field.getLsbD i := by
  rw [← h, BitVec.getLsbD_extractLsb', decide_eq_true hi, Bool.true_and]

theorem getLsbD_of_low_field {x : BitVec w} {field : BitVec l} (h : x.extractLsb' 0 l = field)
    (hi : i < l) : x.getLsbD i = field.getLsbD i := by
  rw [← getLsbD_of_field h hi, Nat.zero_add]

/-- Two words that agree under a mask agree in a field the mask covers. -/
theorem extractLsb'_eq_of_and_eq {x y mask : BitVec w} (h : x &&& mask = y &&& mask)
    (hmask : mask.extractLsb' s l = BitVec.allOnes l) : x.extractLsb' s l = y.extractLsb' s l := by
  simpa only [BitVec.extractLsb'_and, hmask, BitVec.and_allOnes] using
    congrArg (BitVec.extractLsb' s l) h

/-- Cutting a word short drops what a mask of its low bits drops. -/
theorem setWidth_and_mask (x : BitVec w) {mask : BitVec w}
    (hmask : mask.setWidth n = BitVec.allOnes n) : (x &&& mask).setWidth n = x.setWidth n := by
  rw [BitVec.setWidth_and, hmask, BitVec.and_allOnes]

/-- A field by shift and mask. -/
theorem extractLsb'_eq_shift_and (x : BitVec w) {mask : BitVec w}
    (hmask : mask.setWidth l = BitVec.allOnes l) :
    x.extractLsb' s l = (x >>> s &&& mask).setWidth l := by
  rw [setWidth_and_mask _ hmask, BitVec.setWidth_ushiftRight_eq_extractLsb]

/-- The top field of a word, widened, is the word shifted down. -/
theorem setWidth_extractLsb'_top (x : BitVec w) (h : s + l = w) :
    (x.extractLsb' s l).setWidth n = (x >>> s).setWidth n := by
  apply BitVec.eq_of_getLsbD_eq
  intro i hi
  have htop : l ≤ i → x.getLsbD (s + i) = false := fun hl => BitVec.getLsbD_of_ge x _ (by omega)
  by_cases hl : i < l
  · simp [hl]
  · simp [hl, htop (Nat.le_of_not_lt hl)]

/-- Two fields side by side are the upper one shifted over the lower one. -/
theorem append_eq_shiftLeft_or (x : BitVec w) (y : BitVec l) :
    x ++ y = (x.setWidth (w + l) <<< l) ||| y.setWidth (w + l) := by
  rw [← BitVec.setWidth_append_eq_shiftLeft_setWidth_or, BitVec.setWidth_eq]

end Fields

/-! ### The fast-write frame (30_encoding.md R80) -/

section Packed
variable (m : PowerMode) (v : DacValue)

/-- The two top bits of a fast write are the constant of its row. -/
theorem packFast_top : (0b00#2 ++ m ++ v.extractLsb' 8 4).extractLsb' 6 2 = 0 :=
  eq_of_beq (isFastByte_packFast m v)

theorem packFast_eq :
    packFast m v = [(m.setWidth 8 <<< 4) ||| (v >>> 8).setWidth 8, (v &&& 0xFF).setWidth 8] := by
  have hfirst : 0b00#2 ++ m ++ v.extractLsb' 8 4 =
      (m.setWidth 8 <<< 4) ||| (v >>> 8).setWidth 8 := by
    rw [append_eq_shiftLeft_or, setWidth_extractLsb'_top v rfl,
      BitVec.setWidth_append_eq_shiftLeft_setWidth_or]
    simp
  have hsecond : v.extractLsb' 0 8 = (v &&& 0xFF).setWidth 8 := by
    rw [setWidth_and_mask v rfl, BitVec.setWidth_eq_extractLsb' (by decide)]
  rw [packFast, hfirst, hsecond]

/-! ### The EEPROM-write frame (30_encoding.md R81) -/

/-- The constant opcode of an EEPROM write. -/
theorem packEewr_opcode : (0b011#3 ++ 0b00#2 ++ m ++ 0b0#1).extractLsb' 5 3 = 0b011 :=
  eq_of_beq (isEewrByte_packEewr m)

/-- The two zero bits under the opcode. -/
theorem packEewr_pad : (0b011#3 ++ 0b00#2 ++ m ++ 0b0#1).extractLsb' 3 2 = 0 := by
  rw [BitVec.extractLsb'_append_eq_of_le (by decide)]
  exact extractLsb'_middle _ _ _

/-- The zero bit under the mode. -/
theorem packEewr_bit0 : (0b011#3 ++ 0b00#2 ++ m ++ 0b0#1).extractLsb' 0 1 = 0 :=
  BitVec.extractLsb'_append_eq_right

theorem packEewr_eq :
    packEewr m v =
      [(0x60 : Byte) ||| (m.setWidth 8 <<< 1), (v >>> 4).setWidth 8,
        (v.setWidth 8 <<< 4) &&& 0xF0] := by
  have hfirst : 0b011#3 ++ 0b00#2 ++ m ++ 0b0#1 = (0x60 : Byte) ||| (m.setWidth 8 <<< 1) := by
    rw [append_eq_shiftLeft_or, BitVec.setWidth_append_eq_shiftLeft_setWidth_or,
      BitVec.shiftLeft_or_distrib]
    simp
  have hthird : v.extractLsb' 0 4 ++ 0b0000#4 = (v.setWidth 8 <<< 4) &&& 0xF0 := by
    apply BitVec.eq_of_getLsbD_eq
    intro i hi
    rw [BitVec.getLsbD_append, BitVec.getLsbD_and]
    interval_cases i <;> simp
  rw [packEewr, hfirst, BitVec.setWidth_ushiftRight_eq_extractLsb, hthird]

end Packed

/-- Settles O5: the bits are those of the fields that the two bytes are packed from. -/
theorem fastWriteFrameIsTheSourceFormula : Obligations.FastWriteFrameIsTheSourceFormula := by
  intro m v
  refine ⟨packFast_eq m v, fun i hi b hb => ?top, fun i hi b hb => ?high, fun i hi b hb => ?low⟩
  all_goals obtain rfl := Option.some.inj hb
  case top =>
    exact ⟨by simpa using getLsbD_of_field (packFast_top m v) hi,
      getLsbD_of_field (fastMode_packFast m v) hi⟩
  case high =>
    exact (getLsbD_of_low_field BitVec.extractLsb'_append_eq_right hi).trans
      (getLsbD_of_field rfl hi).symm
  case low => exact (getLsbD_of_low_field rfl hi).symm

/-- Settles O6: the bits are those of the fields that the three bytes are packed from. -/
theorem eepromWriteFrameIsTheSourceFormula : Obligations.EepromWriteFrameIsTheSourceFormula := by
  intro m v
  refine ⟨packEewr_eq m v, fun b hb => ?byte0, fun i hi b hb => ?byte1, fun i hi b hb => ?byte2⟩
  all_goals obtain rfl := Option.some.inj hb
  case byte0 =>
    exact ⟨packEewr_opcode m, packEewr_pad m, eewrMode_packEewr m,
      getLsbD_of_low_field (packEewr_bit0 m) Nat.one_pos⟩
  case byte1 => exact (getLsbD_of_field rfl hi).symm
  case byte2 =>
    constructor
    · exact (getLsbD_of_field BitVec.extractLsb'_append_eq_left hi).trans
        (getLsbD_of_low_field rfl hi).symm
    · exact (getLsbD_of_low_field BitVec.extractLsb'_append_eq_right hi).trans BitVec.getLsbD_zero

/-! ### The status frame (30_encoding.md R85, R86) -/

/-- Settles O7: the mode is a field by shift and mask, the value two fields side by side. -/
theorem dacFieldsAreTheSourceFormula : Obligations.DacFieldsAreTheSourceFormula := by
  intro f
  refine ⟨Prod.ext (extractLsb'_eq_shift_and f.b0 rfl) ?_, rfl, rfl⟩
  calc f.b1 ++ f.b2.extractLsb' 4 4
    _ = (f.b1.setWidth 12 <<< 4) ||| (f.b2.extractLsb' 4 4).setWidth 12 :=
      append_eq_shiftLeft_or _ _
    _ = _ := by rw [setWidth_extractLsb'_top f.b2 rfl]

/-- The RDY bit by mask and shift. -/
theorem and_0x80_shift (b : Byte) :
    (b &&& 0x80) >>> 7 = (BitVec.ofBool (b.getLsbD 7)).setWidth 8 := by
  apply BitVec.eq_of_getLsbD_eq
  intro i hi
  rw [BitVec.getLsbD_ushiftRight, BitVec.getLsbD_and]
  interval_cases i <;> simp

theorem rdy_iff (f : StatusFrame) : rdy f = true ↔ (f.b0 &&& 0x80) >>> 7 = 1 := by
  rw [and_0x80_shift, rdy]
  cases f.b0.getLsbD 7 <;> decide

/-- The low nibble, widened, is the byte under its mask. -/
theorem setWidth_low_nibble (b : Byte) :
    (b.extractLsb' 0 4).setWidth 12 = (b &&& 0x0F).setWidth 12 := by
  apply BitVec.eq_of_getLsbD_eq
  intro i hi
  rw [BitVec.getLsbD_setWidth, BitVec.getLsbD_extractLsb', BitVec.getLsbD_setWidth,
    BitVec.getLsbD_and]
  interval_cases i <;> simp

/-- Settles O8: the mode is a field by shift and mask, the value a low nibble over a byte. -/
theorem eepromFieldsAreTheSourceFormula : Obligations.EepromFieldsAreTheSourceFormula := by
  intro f
  refine ⟨rdy_iff f, rfl, Prod.ext (extractLsb'_eq_shift_and f.b3 rfl) ?_, rfl, rfl⟩
  calc f.b3.extractLsb' 0 4 ++ f.b4
    _ = ((f.b3.extractLsb' 0 4).setWidth 12 <<< 8) ||| f.b4.setWidth 12 :=
      append_eq_shiftLeft_or _ _
    _ = _ := by rw [setWidth_low_nibble]

/-! ### Bits no field names (30_encoding.md R88) -/

/-- The block sees a status frame through RDY and its two decoders alone. -/
theorem State.takeStatus_congr {f g : StatusFrame} (s : State) (hrdy : rdy f = rdy g)
    (hdac : unpackDac f = unpackDac g) (heeprom : unpackEeprom f = unpackEeprom g) :
    s.takeStatus f = s.takeStatus g := by
  simp only [State.takeStatus, State.takeDacFrame, State.takePollFrame, hrdy, hdac, heeprom]

/-- Settles O9: the masks cover the fields that RDY and the two decoders read. -/
theorem unnamedBitsAreZeroOutAndIgnoredIn : Obligations.UnnamedBitsAreZeroOutAndIgnoredIn := by
  refine ⟨fun m v b hb => ?fast, fun m v b hb => ?eewr, fun m v b hb => ?low,
    fun f g s h0 h1 h2 h3 h4 => ?received⟩
  case fast =>
    obtain rfl := Option.some.inj hb
    exact packFast_top m v
  case eewr =>
    obtain rfl := Option.some.inj hb
    exact ⟨packEewr_opcode m, packEewr_pad m, packEewr_bit0 m⟩
  case low =>
    obtain rfl := Option.some.inj hb
    exact BitVec.extractLsb'_append_eq_right
  case received =>
    have hrdy : rdy f = rdy g := by
      rw [rdy, rdy, BitVec.getLsbD_eq_extractLsb', BitVec.getLsbD_eq_extractLsb',
        extractLsb'_eq_of_and_eq h0 rfl]
    have hdac : unpackDac f = unpackDac g := by
      rw [unpackDac, unpackDac, h1, extractLsb'_eq_of_and_eq h0 rfl,
        extractLsb'_eq_of_and_eq h2 rfl]
    have heeprom : unpackEeprom f = unpackEeprom g := by
      rw [unpackEeprom, unpackEeprom, h4, extractLsb'_eq_of_and_eq h3 rfl,
        extractLsb'_eq_of_and_eq (s := 0) h3 rfl]
    exact s.takeStatus_congr hrdy hdac heeprom

end Sys2Proof.Machine
end

section
/-! The response word (30_encoding.md R76, R77). -/

namespace Sys2Proof.Machine

/-! ### Its fields -/

section Fields
variable (r : Rsp)

theorem packResponse_status : (packResponse r).extractLsb' 20 4 = statusCode r.status := by
  rw [packResponse, BitVec.extractLsb'_append_eq_of_le (by decide),
    BitVec.extractLsb'_append_eq_of_le (by decide), BitVec.extractLsb'_append_eq_of_le (by decide),
    BitVec.extractLsb'_append_eq_of_le (by decide)]
  exact BitVec.extractLsb'_append_eq_left

theorem packResponse_ack : (packResponse r).extractLsb' 19 1 = BitVec.ofBool r.ack := by
  rw [packResponse, BitVec.extractLsb'_append_eq_of_le (by decide),
    BitVec.extractLsb'_append_eq_of_le (by decide), BitVec.extractLsb'_append_eq_of_le (by decide)]
  exact extractLsb'_middle _ _ _

theorem packResponse_bit18 : (packResponse r).extractLsb' 18 1 = 0b0#1 := by
  rw [packResponse, BitVec.extractLsb'_append_eq_of_le (by decide),
    BitVec.extractLsb'_append_eq_of_le (by decide)]
  exact extractLsb'_middle _ _ _

theorem packResponse_mode : (packResponse r).extractLsb' 16 2 = r.mode := by
  rw [packResponse, BitVec.extractLsb'_append_eq_of_le (by decide)]
  exact extractLsb'_middle _ _ _

theorem packResponse_pad : (packResponse r).extractLsb' 12 4 = 0 :=
  extractLsb'_middle _ _ _

theorem packResponse_value : (packResponse r).extractLsb' 0 12 = r.value :=
  BitVec.extractLsb'_append_eq_right

theorem packResponse_ack_bit : (packResponse r).getLsbD 19 = r.ack :=
  (getLsbD_of_field (packResponse_ack r) Nat.one_pos).trans (BitVec.getLsbD_ofBool _ 0)

end Fields

/-! ### Its record -/

/-- The three status codes differ. -/
theorem statusCode_injective : Function.Injective statusCode := by
  intro a b
  cases a <;> cases b <;> decide

/-- Every field of the record stands in the word. -/
theorem packResponse_injective : Function.Injective packResponse := by
  intro r r' h
  have hstatus : r.status = r'.status := statusCode_injective (by
    rw [← packResponse_status, ← packResponse_status, h])
  have hack : r.ack = r'.ack := by rw [← packResponse_ack_bit, ← packResponse_ack_bit, h]
  have hmode : r.mode = r'.mode := by rw [← packResponse_mode, ← packResponse_mode, h]
  have hvalue : r.value = r'.value := by rw [← packResponse_value, ← packResponse_value, h]
  cases r
  cases r'
  simp_all

/-- Settles O10: the word is its fields side by side, and the fields are the record. -/
theorem responseWordHoldsTheFieldsOfTheRecord :
    Obligations.ResponseWordHoldsTheFieldsOfTheRecord :=
  ⟨fun r => ⟨packResponse_status r, packResponse_ack_bit r,
    getLsbD_of_field (packResponse_bit18 r) Nat.one_pos, packResponse_mode r, packResponse_pad r,
    packResponse_value r⟩, packResponse_injective, rfl, rfl, rfl⟩

end Sys2Proof.Machine
end

section
/-! PROBE, GCRESET and GCWAKE: their acceptance, and the whole command against a listed ack
(40_presence_and_general_call.md). -/

namespace Sys2Proof.Machine

variable {s u : State}

/-! ### Acceptance -/

theorem exec_probe_of_idle (h : s.phase = .idle) :
    exec .probe s = .next ((s.accept .probe false).issueWrite s.addr []) :=
  State.whenIdle_of_idle h

theorem exec_gcreset_of_idle (h : s.phase = .idle) :
    exec .gcreset s =
      .next ((s.accept .gcreset false).issueWrite Config.broadcast [Config.gcResetCode]) :=
  State.whenIdle_of_idle h

theorem exec_gcwake_of_idle (h : s.phase = .idle) :
    exec .gcwake s =
      .next ((s.accept .gcwake false).issueWrite Config.broadcast [Config.gcWakeCode]) :=
  State.whenIdle_of_idle h

/-- Settles O14: an acceptance and the one write it issues update the named fields and no other. -/
theorem presenceAndGeneralCallsSendTheirFrame :
    Obligations.PresenceAndGeneralCallsSendTheirFrame :=
  fun _ hidle =>
    ⟨exec_probe_of_idle hidle, exec_gcreset_of_idle hidle, exec_gcwake_of_idle hidle⟩

/-! ### One write against a listed ack, up to the response -/

/-- Three steps: the acceptance, which issues the write, the environment's step on it, the block's step on
the ack. -/
theorem run_of_step_issueWrite {w : Addr} {f : Frame} {a : Bool} {as : List Answer}
    (hstep : step s = .next (u.issueWrite w f)) (hreq : u.resetReq = none)
    (hcur : u.cur ∈ [Command.probe, .gcreset, .gcwake, .setmode, .wru12, .wreeprom])
    (henv : u.env = .answers (.ack a :: as)) :
    run 3 s = .next (({ u with env := .answers as }.issueWrite w f).finish
      { status := .ok, ack := a } none) := by
  have hserve : step (u.issueWrite w f) =
      .next { u.issueWrite w f with bus := .wrRsp a, env := .answers as } := by
    have hlisted : (u.issueWrite w f).env = .answers (.ack a :: as) := henv
    rw [step_of_writing (s := u.issueWrite w f) hreq rfl, State.settleDevices_of_answers hlisted,
      State.serveWrite_of_answers_cons hlisted, Answer.onBus]
  have hack : step { u.issueWrite w f with bus := .wrRsp a, env := .answers as } =
      .next (({ u with env := .answers as }.issueWrite w f).finish
        { status := .ok, ack := a } none) :=
    ackEndsTheCommand _ a hreq rfl rfl hcur
  exact (run_succ_of_step hstep 2).trans
    ((run_succ_of_step hserve 1).trans (run_one_of_step hack))

/-- From the open port, a word whose acceptance is one write runs to its response with the ack listed. -/
theorem run_of_exec_issueWrite {cw : CmdWord} {rest : List Request} {c : Command} {w : Addr}
    {f : Frame} {a : Bool} {as : List Answer} (hready : s.Ready) (hhost : s.host = .word cw :: rest)
    (henv : s.env = .answers (.ack a :: as))
    (hexec : exec (decodeCommand cw) s = .next ((s.accept c false).issueWrite w f))
    (hcur : c ∈ [Command.probe, .gcreset, .gcwake, .setmode, .wru12, .wreeprom]) :
    run 3 s = .next { s with
      host := rest, cur := c, viaRead := false, env := .answers as
      outputs := .done { status := .ok, ack := a } none :: .busWrite w f :: s.outputs } := by
  have hstep : step s = .next ((s.accept c false).issueWrite w f) := by
    rw [step_of_request hready hhost, State.settleDevices_of_answers henv]
    exact hexec
  rw [run_of_step_issueWrite hstep hready.noReset hcur henv]
  simp [State.finish, State.issueWrite, State.accept, hhost, hready.phase, hready.bus]

/-- Settles O46: the word's row (O3) gives the instruction, whose acceptance is one write. -/
theorem presenceCommandsRunToTheirResponse : Obligations.PresenceCommandsRunToTheirResponse := by
  intro s cw rest a as hready hhost henv
  obtain ⟨hprobe, hgcreset, hgcwake, -⟩ := commandRowsAreSelectedByMaskAndMatch cw
  refine ⟨fun hrow => ?probe, fun hrow => ?gcreset, fun hrow => ?gcwake⟩
  case probe =>
    have hexec := hprobe.mp hrow ▸ exec_probe_of_idle hready.phase
    exact run_of_exec_issueWrite hready hhost henv hexec (by simp)
  case gcreset =>
    have hexec := hgcreset.mp hrow ▸ exec_gcreset_of_idle hready.phase
    exact run_of_exec_issueWrite hready hhost henv hexec (by simp)
  case gcwake =>
    have hexec := hgcwake.mp hrow ▸ exec_gcwake_of_idle hready.phase
    exact run_of_exec_issueWrite hready hhost henv hexec (by simp)

end Sys2Proof.Machine
end

section
/-! GETMODE, SETMODE, RDVAL, WRU12 and the front end's pair: their acceptance, the block's step on the status
frame, and the whole commands (41_dac_register.md; 43_normalized.md R153, R154). -/

namespace Sys2Proof.Machine

variable {s t u : State} {m : PowerMode} {v : DacValue}

/-! ### Acceptance -/

theorem exec_getmode_of_idle (h : s.phase = .idle) :
    exec .getmode s = .next (s.accept .getmode false).rdDac :=
  State.whenIdle_of_idle h

theorem exec_rdval_of_idle (h : s.phase = .idle) :
    exec .rdval s = .next (s.accept .rdval false).rdDac :=
  State.whenIdle_of_idle h

theorem exec_read_of_idle (h : s.phase = .idle) :
    exec .read s = .next (s.accept .rdval true).rdDac :=
  State.whenIdle_of_idle h

theorem exec_setmode_of_idle (h : s.phase = .idle) (m : PowerMode) :
    exec (.setmode m) s = .next ((s.accept .setmode false).setMode m).wrDac :=
  State.whenIdle_of_idle h

theorem exec_wru12_of_idle (h : s.phase = .idle) (v : BitVec 16) :
    exec (.wru12 v) s = .next ((s.accept .wru12 false).setValue (trunc12 v)).wrDac :=
  State.whenIdle_of_idle h

/-- WRITE is WRU12 of the converted operand, in IDLE or not (43_normalized.md R153). -/
theorem exec_write_eq_wru12 (s : State) (v : NormNum) :
    exec (.write v) s = exec (.wru12 (zext16 (normToU12 v))) s := rfl

/-- Settles O15: an acceptance and the one read of RD_DAC update the named fields and no other. -/
theorem dacReadsIssueOneStatusRead : Obligations.DacReadsIssueOneStatusRead :=
  fun _ hidle =>
    ⟨exec_getmode_of_idle hidle, exec_rdval_of_idle hidle, exec_read_of_idle hidle⟩

/-! ### The cache update before WR_DAC -/

/-- `u` is the block in `s` after the acceptance of SETMODE or WRU12 and its update of the cache: it holds
the pair that WR_DAC sends, and is what `s` was to the bus and the reset event. -/
structure FastWriteDue (s u : State) (m : PowerMode) (v : DacValue) : Prop where
  resetReq : u.resetReq = s.resetReq
  addr : u.addr = s.addr
  env : u.env = s.env
  cur : u.cur = .setmode ∨ u.cur = .wru12
  mode : u.mode = some m
  value : u.value = some v

theorem fastWriteDue_setmode (hvalue : s.value = some v) :
    FastWriteDue s ((s.accept .setmode false).setMode m) m v :=
  ⟨rfl, rfl, rfl, .inl rfl, rfl, hvalue⟩

theorem fastWriteDue_wru12 (hmode : s.mode = some m) :
    FastWriteDue s ((s.accept .wru12 false).setValue v) m v :=
  ⟨rfl, rfl, rfl, .inr rfl, hmode, rfl⟩

/-- A fast write that is due draws nothing. -/
theorem FastWriteDue.wrDac_eq (hu : FastWriteDue s u m v) :
    u.wrDac = u.issueWrite s.addr (packFast m v) := by
  rw [State.wrDac_of_some hu.mode hu.value, hu.addr]

/-- Settles O16: MODE is just written and VALUE held, so that the fast write of the pair is due. -/
theorem setmodeSendsTheCachedValue : Obligations.SetmodeSendsTheCachedValue := by
  intro s m v hidle hvalue
  rw [exec_setmode_of_idle hidle, (fastWriteDue_setmode hvalue).wrDac_eq]
  rfl

/-- Settles O17: VALUE is just written and MODE held; WRITE's operand has 12 bits, which the mask of WRU12
keeps. -/
theorem rawAndNormalizedWritesSendTheCachedMode :
    Obligations.RawAndNormalizedWritesSendTheCachedMode := by
  refine ⟨fun s m v hidle hmode => ?wru12, fun s m v hidle hmode => ?write, exec_write_eq_wru12⟩
  case wru12 =>
    rw [exec_wru12_of_idle hidle, (fastWriteDue_wru12 hmode).wrDac_eq, trunc12_eq_setWidth]
    rfl
  case write =>
    rw [exec_write_eq_wru12, exec_wru12_of_idle hidle, (fastWriteDue_wru12 hmode).wrDac_eq,
      trunc12_zext16]
    rfl

/-! ### The status frame of RD_DAC -/

/-- The frame ends GETMODE, which returns the mode. -/
theorem State.takeStatus_of_getmode (f : StatusFrame) (hphase : s.phase = .wDac)
    (hcur : s.cur = .getmode) :
    s.takeStatus f = .next ((s.loadCache (unpackDac f)).finish
      { status := .ok, mode := (unpackDac f).1 } none) := by
  simp only [State.takeStatus, State.takeDacFrame, hphase, hcur]

/-- The frame ends RDVAL, which returns the value, or the READ that issued it, which divides it. -/
theorem State.takeStatus_of_rdval {b : Bool} (f : StatusFrame) (hphase : s.phase = .wDac)
    (hcur : s.cur = .rdval) (hvia : s.viaRead = b) :
    s.takeStatus f = .next ((s.loadCache (unpackDac f)).finish
      { status := .ok, value := (unpackDac f).2 }
      (if b then some (u12ToNorm (unpackDac f).2) else none)) := by
  simp only [State.takeStatus, State.takeDacFrame, hphase, hcur, hvia]

/-- Settles O23: the block's step does not look at the ready bit of the frame. -/
theorem statusFrameLoadsTheCache : Obligations.StatusFrameLoadsTheCache :=
  fun _ f hphase =>
    ⟨State.takeStatus_of_getmode f hphase, State.takeStatus_of_rdval f hphase,
      State.takeStatus_of_rdval f hphase⟩

/-! ### WR_DAC against a listed ack, up to the response -/

/-- From the open port, a word whose acceptance leaves a fast write due ends with the listed ack. -/
theorem run_of_fastWriteDue_of_answers {cw : CmdWord} {rest : List Request} {a : Bool}
    {as : List Answer} (hready : s.Ready) (hhost : s.host = .word cw :: rest)
    (henv : s.env = .answers (.ack a :: as)) (hu : FastWriteDue s u m v)
    (hexec : exec (decodeCommand cw) s = .next u.wrDac) :
    run 3 s = .next (({ u with env := .answers as }.issueWrite s.addr (packFast m v)).finish
      { status := .ok, ack := a } none) := by
  have hstep : step s = .next (u.issueWrite s.addr (packFast m v)) := by
    rw [step_of_request hready hhost, State.settleDevices_of_answers henv, ← hu.wrDac_eq]
    exact hexec
  exact run_of_step_issueWrite hstep (hu.resetReq.trans hready.noReset)
    (by obtain h | h := hu.cur <;> simp [h]) (hu.env.trans henv)

/-- The low 12 bits of a command word's value field are the word's own (30_encoding.md R71, R73). -/
theorem trunc12_field (cw : CmdWord) : trunc12 (cw.extractLsb' 0 16) = cw.extractLsb' 0 12 := by
  ext i hi
  simp [trunc12]

/-- Settles O47: the word's row (O3) gives the instruction, which writes its half of the cache before WR_DAC
sends the pair; the ack undoes nothing. -/
theorem fastWriteCommandsRunToTheirResponse : Obligations.FastWriteCommandsRunToTheirResponse := by
  intro s cw rest a as hready hhost henv
  obtain ⟨-, -, -, -, hsetmode, -, hwru12, -⟩ := commandRowsAreSelectedByMaskAndMatch cw
  refine ⟨fun v hvalue hrow => ?setmode, fun m hmode hrow => ?wru12⟩
  case setmode =>
    have hexec := hsetmode.mp hrow ▸ exec_setmode_of_idle hready.phase (cw.extractLsb' 16 2)
    rw [run_of_fastWriteDue_of_answers hready hhost henv (fastWriteDue_setmode hvalue) hexec]
    simp [State.finish, State.issueWrite, State.setMode, State.accept, hhost, hready.phase,
      hready.bus]
  case wru12 =>
    have hexec := hwru12.mp hrow ▸ exec_wru12_of_idle hready.phase (cw.extractLsb' 0 16)
    rw [trunc12_field] at hexec
    rw [run_of_fastWriteDue_of_answers hready hhost henv (fastWriteDue_wru12 hmode) hexec]
    simp [State.finish, State.issueWrite, State.setValue, State.accept, hhost, hready.phase,
      hready.bus]

/-! ### RD_DAC against a listed frame, up to the response -/

/-- A read takes the next answer listed, of whatever shape. -/
theorem State.serveRead_of_answers_cons {x : Answer} {xs : List Answer}
    (h : s.env = .answers (x :: xs)) (a : Addr) :
    s.serveRead a = { s with bus := x.onBus, env := .answers xs } := by
  simp [State.serveRead, h]

/-- Three steps: the acceptance, which issues the read, the environment's step on it, the block's step on
the frame. -/
theorem run_of_step_rdDac_of_answers {f : StatusFrame} {as : List Answer}
    (hstep : step s = .next u.rdDac) (hreq : u.resetReq = none)
    (henv : u.env = .answers (.bytes (statusBytes f) :: as))
    (hframe : { u.rdDac with bus := .rdRsp (statusBytes f), env := .answers as }.takeStatus f =
      .next t) :
    run 3 s = .next t := by
  have hserve : step u.rdDac =
      .next { u.rdDac with bus := .rdRsp (statusBytes f), env := .answers as } := by
    have hlisted : u.rdDac.env = .answers (.bytes (statusBytes f) :: as) := henv
    rw [step_of_reading (s := u.rdDac) hreq rfl, State.settleDevices_of_answers hlisted,
      State.serveRead_of_answers_cons hlisted, Answer.onBus]
  have htake := (step_of_statusFrame
    (s := { u.rdDac with bus := .rdRsp (statusBytes f), env := .answers as }) hreq rfl).trans hframe
  exact (run_succ_of_step hstep 2).trans
    ((run_succ_of_step hserve 1).trans (run_one_of_step htake))

/-- From the open port, a word whose acceptance is RD_DAC runs to its response with the frame listed; `r` is
what its command returns for the frame. -/
theorem run_of_exec_rdDac {cw : CmdWord} {rest : List Request} {f : StatusFrame} {as : List Answer}
    {c : Command} {r : Rsp} (hready : s.Ready) (hhost : s.host = .word cw :: rest)
    (henv : s.env = .answers (.bytes (statusBytes f) :: as))
    (hexec : exec (decodeCommand cw) s = .next (s.accept c false).rdDac)
    (hframe : ∀ w : State, w.phase = .wDac → w.cur = c → w.viaRead = false →
      w.takeStatus f = .next ((w.loadCache (unpackDac f)).finish r none)) :
    run 3 s = .next { s with
      host := rest, cur := c, viaRead := false, env := .answers as
      mode := some (unpackDac f).1, value := some (unpackDac f).2
      outputs := .done r none :: .busRead s.addr 5 :: s.outputs } := by
  have hstep : step s = .next (s.accept c false).rdDac := by
    rw [step_of_request hready hhost, State.settleDevices_of_answers henv]
    exact hexec
  rw [run_of_step_rdDac_of_answers hstep hready.noReset henv (hframe _ rfl rfl rfl)]
  simp [State.finish, State.loadCache, State.setMode, State.setValue, State.rdDac, State.issueRead,
    State.accept, Config.statusLen, hhost, hready.phase, hready.bus]

/-- Settles O48: the word's row (O3) gives the instruction, and its latch says which register the frame's
step returns. -/
theorem dacReadsRunToTheirResponse : Obligations.DacReadsRunToTheirResponse := by
  intro s cw rest f as hready hhost henv
  obtain ⟨-, -, -, hgetmode, -, hrdval, -⟩ := commandRowsAreSelectedByMaskAndMatch cw
  refine ⟨fun hrow => ?getmode, fun hrow => ?rdval⟩
  case getmode =>
    have hexec := hgetmode.mp hrow ▸ exec_getmode_of_idle hready.phase
    exact run_of_exec_rdDac hready hhost henv hexec
      fun _ hphase hcur _ => State.takeStatus_of_getmode f hphase hcur
  case rdval =>
    have hexec := hrdval.mp hrow ▸ exec_rdval_of_idle hready.phase
    exact run_of_exec_rdDac hready hhost henv hexec
      fun _ hphase hcur hvia => State.takeStatus_of_rdval f hphase hcur hvia

/-! ### WR_DAC against one reference device: the cache and the device agree -/

/-- From the open port, a word whose acceptance leaves a fast write due puts its pair both in the cache and
in the present device of ADDR. -/
theorem run_of_fastWriteDue_at_device {cw : CmdWord} {rest : List Request} {d : Device}
    (hready : s.Ready) (hhost : s.host = .word cw :: rest) (henv : s.env = .devices [d])
    (hown : d.devAddr = s.addr) (haddr : s.addr ≠ Config.broadcast) (hpresent : d.present = true)
    (hbusy : d.busy = false) (hu : FastWriteDue s.settleDevices u m v)
    (hexec : exec (decodeCommand cw) s.settleDevices = .next u.wrDac) :
    ∃ t d', run 3 s = .next t ∧ t.env = .devices [d'] ∧ t.mode = some m ∧ t.value = some v ∧
      d'.dmode = m ∧ d'.dval = v ∧
      t.outputs.head? = some (.done { status := .ok, ack := true } none) := by
  have hstep : step s = .next u.wrDac := (step_of_request hready hhost).trans hexec
  have hset : u.addr = s.addr := hu.addr.trans s.settleDevices_addr
  have hdevices : u.env = .devices [d.settle s.draws] := by
    rw [hu.env, State.settleDevices_of_devices henv, List.map_singleton]
  have hm : u.modeRead = m := u.modeRead_of_some hu.mode
  have hv : u.keepMode.valueRead = v := by
    rw [u.keepMode_valueRead_of_some hu.mode, u.valueRead_of_some hu.value]
  obtain ⟨t, d', hrun, hw⟩ := fastWritten_of_step_wrDac hstep
    (by rw [hu.resetReq, s.settleDevices_resetReq, hready.noReset]) hu.cur (hset ▸ haddr) hdevices
    (by rw [Device.settle_devAddr, hset, hown]) (d.settle_busy_of_not _ hbusy)
  refine ⟨t, d', hrun, hw.env, hm ▸ hw.mode, hv ▸ hw.value, hm ▸ hw.dmode, hv ▸ hw.dval, ?_⟩
  rw [hw.outputs, Device.settle_present, hpresent, List.head?_cons]

/-- Settles O53: the pair that WR_DAC sends is the cache's own, with the held half unaltered. -/
theorem cacheAgreesWithTheDeviceAfterAFastWrite :
    Obligations.CacheAgreesWithTheDeviceAfterAFastWrite := by
  intro s cw rest d m v hready hhost henv hown haddr hpresent hbusy hmode hvalue
  obtain ⟨-, -, -, -, hsetmode, -, hwru12, -⟩ := commandRowsAreSelectedByMaskAndMatch cw
  have hidle : s.settleDevices.phase = .idle := s.settleDevices_phase.trans hready.phase
  refine ⟨fun hrow => ?setmode, fun hrow => ?wru12⟩
  case setmode =>
    have hexec := hsetmode.mp hrow ▸ exec_setmode_of_idle hidle (cw.extractLsb' 16 2)
    exact run_of_fastWriteDue_at_device hready hhost henv hown haddr hpresent hbusy
      (fastWriteDue_setmode (s.settleDevices_value.trans hvalue)) hexec
  case wru12 =>
    have hexec := hwru12.mp hrow ▸ exec_wru12_of_idle hidle (cw.extractLsb' 0 16)
    rw [trunc12_field] at hexec
    exact run_of_fastWriteDue_at_device hready hhost henv hown haddr hpresent hbusy
      (fastWriteDue_wru12 (s.settleDevices_mode.trans hmode)) hexec

end Sys2Proof.Machine
end

section
/-! RDEEPROM and WREEPROM (42_eeprom.md): their acceptance, the block's step on a frame of POLL_READY, and the
whole commands against any number of listed not-ready frames. -/

namespace Sys2Proof.Machine

variable {s u : State} {f g : StatusFrame} {as : List Answer}

/-! ### Acceptance -/

theorem exec_rdeeprom_of_idle (h : s.phase = .idle) :
    exec .rdeeprom s = .next (s.accept .rdeeprom false).pollReady :=
  State.whenIdle_of_idle h

theorem exec_wreeprom_of_idle (h : s.phase = .idle) (m : PowerMode) (v : BitVec 16) :
    exec (.wreeprom m v) s =
      .next { s.accept .wreeprom false with lm := m, lv := trunc12 v }.pollReady :=
  State.whenIdle_of_idle h

/-- Settles O19: an acceptance and the first read of POLL_READY update the named fields and no other. -/
theorem eepromCommandsStartPolling : Obligations.EepromCommandsStartPolling := by
  refine fun s hidle => ⟨exec_rdeeprom_of_idle hidle, fun m v => ?_⟩
  rw [exec_wreeprom_of_idle hidle, trunc12_eq_setWidth]
  rfl

/-! ### One frame of POLL_READY -/

/-- The limit is not reached: there is none, or the count is below it (42_eeprom.md R130 (e)). -/
theorem limitReached_eq_false_iff {limit : Option Nat} {k : Nat} :
    limitReached limit k = false ↔ ∀ n, limit = some n → k < n := by
  cases limit <;> simp [limitReached]

/-- Below the limit a not-ready frame is counted and followed by the next read. -/
theorem State.pollAgain_of_below (h : ∀ n, s.cfg.pollLimit = some n → s.polls + 1 < n) :
    s.pollAgain = { s with polls := s.polls + 1 }.issueRead .wPoll := by
  rw [State.pollAgain, limitReached_eq_false_iff.mpr h]
  rfl

/-- At the limit a not-ready frame is counted and ends the command with TIMEOUT. -/
theorem State.pollAgain_of_reached {n : Nat} (hlimit : s.cfg.pollLimit = some n)
    (h : n ≤ s.polls + 1) : s.pollAgain = { s with polls := s.polls + 1 }.raiseTimeout := by
  simp [State.pollAgain, limitReached, hlimit, h]

/-- A frame that is not ready is counted, whichever command polls. -/
theorem State.takeStatus_of_notReady (hphase : s.phase = .wPoll) (hrdy : f.b0.getLsbD 7 = false) :
    s.takeStatus f = .next s.pollAgain := by
  simp only [State.takeStatus, State.takePollFrame, rdy, hphase, hrdy]
  rfl

/-- A ready frame ends RDEEPROM, which returns the frame's EEPROM fields. -/
theorem State.takeStatus_of_rdeeprom (hphase : s.phase = .wPoll) (hrdy : f.b0.getLsbD 7 = true)
    (hcur : s.cur = .rdeeprom) :
    s.takeStatus f = .next (s.finish
      { status := .ok, mode := (unpackEeprom f).1, value := (unpackEeprom f).2 } none) := by
  simp only [State.takeStatus, State.takePollFrame, rdy, hphase, hrdy, hcur, if_true]

/-- A ready frame makes WREEPROM send its write. -/
theorem State.takeStatus_of_wreeprom (hphase : s.phase = .wPoll) (hrdy : f.b0.getLsbD 7 = true)
    (hcur : s.cur = .wreeprom) : s.takeStatus f = .next s.writeEeprom := by
  simp only [State.takeStatus, State.takePollFrame, rdy, hphase, hrdy, hcur, if_true]

/-- Settles O24: a not-ready frame goes to the limit's two cases, a ready one to the two commands. -/
theorem pollingFollowsTheReadyBit : Obligations.PollingFollowsTheReadyBit := by
  intro s f hphase
  refine ⟨fun hrdy hbelow => ?next, fun n hrdy hlimit hreached => ?timeout,
    fun hrdy hcur => State.takeStatus_of_rdeeprom hphase hrdy hcur,
    fun hrdy hcur hkeep => ?uncached, fun hrdy hcur hupdate => ?cached⟩
  case next =>
    calc exec (.frameStatus f) s
      _ = .next s.pollAgain := State.takeStatus_of_notReady hphase hrdy
      _ = _ := by rw [State.pollAgain_of_below hbelow, State.issueRead, ← hphase]; rfl
  case timeout =>
    calc exec (.frameStatus f) s
      _ = .next s.pollAgain := State.takeStatus_of_notReady hphase hrdy
      _ = _ := by rw [State.pollAgain_of_reached hlimit hreached]; rfl
  case uncached =>
    calc exec (.frameStatus f) s
      _ = .next s.writeEeprom := State.takeStatus_of_wreeprom hphase hrdy hcur
      _ = _ := by simp [State.writeEeprom_spec, hkeep]
  case cached =>
    calc exec (.frameStatus f) s
      _ = .next s.writeEeprom := State.takeStatus_of_wreeprom hphase hrdy hcur
      _ = _ := by simp [State.writeEeprom_spec, hupdate]

/-! ### Not-ready frames in a row -/

/-- The block waits for the answer to a read of POLL_READY, and no reset is raised. -/
structure State.Polling (s : State) : Prop where
  phase : s.phase = .wPoll
  bus : s.bus = .reading s.addr
  noReset : s.resetReq = none

/-- The block after `k` more not-ready frames, each counted and followed by a read, with the answers `as`
left. -/
def State.polled (k : Nat) (as : List Answer) (s : State) : State :=
  { s with
    polls := s.polls + k, env := .answers as
    outputs := List.replicate k (.busRead s.addr Config.statusLen) ++ s.outputs }

/-- The block with the status frame `f` on the bus as the answer to its read, and the answers `as` left. -/
def State.answered (f : StatusFrame) (as : List Answer) (s : State) : State :=
  { s with bus := .rdRsp (statusBytes f), env := .answers as }

theorem State.Polling.pollReady (h : u.resetReq = none) : u.pollReady.Polling := ⟨rfl, rfl, h⟩

theorem State.Polling.polled (hs : s.Polling) (k : Nat) (as : List Answer) :
    (s.polled k as).Polling := ⟨hs.phase, hs.bus, hs.noReset⟩

theorem State.polled_zero (henv : s.env = .answers as) : s.polled 0 as = s := by
  rw [State.polled, ← henv]
  rfl

theorem State.polled_polled (j k : Nat) (as' as : List Answer) (s : State) :
    (s.polled j as').polled k as = s.polled (j + k) as := by
  simp only [State.polled, ← List.append_assoc, List.replicate_append_replicate, Nat.add_assoc,
    Nat.add_comm j k]

/-- The listed frame is the answer to the read. -/
theorem step_of_polling_of_answers (hs : s.Polling)
    (henv : s.env = .answers (.bytes (statusBytes f) :: as)) :
    step s = .next (s.answered f as) := by
  rw [step_of_reading hs.noReset hs.bus, State.settleDevices_of_answers henv,
    State.serveRead_of_answers_cons henv, Answer.onBus, State.answered]

/-- The block takes the frame that answers its read. -/
theorem step_of_answered (hs : s.Polling) :
    step (s.answered f as) = (s.answered f as).takeStatus f := by
  rw [step_of_statusFrame (s := s.answered f as) hs.noReset rfl, State.settleDevices_of_answers rfl]

/-- A not-ready frame below the limit is counted and followed by the next read. -/
theorem step_of_answered_notReady (hs : s.Polling) (hrdy : f.b0.getLsbD 7 = false)
    (hbelow : ∀ n, s.cfg.pollLimit = some n → s.polls + 1 < n) :
    step (s.answered f as) = .next (s.polled 1 as) := by
  have hphase : (s.answered f as).phase = .wPoll := hs.phase
  have hnext := State.pollAgain_of_below (s := s.answered f as) hbelow
  rw [step_of_answered hs, State.takeStatus_of_notReady hphase hrdy, hnext]
  simp [State.issueRead, State.answered, State.polled, hs.phase, hs.bus]

/-- Not-ready frames below the limit, by induction on their list: two steps for each, the environment's and
the block's. -/
theorem run_of_notReadyFrames {fs : List StatusFrame} (hs : s.Polling)
    (henv : s.env = .answers (fs.map (fun f => .bytes (statusBytes f)) ++ as))
    (hrdy : ∀ f ∈ fs, f.b0.getLsbD 7 = false)
    (hbelow : ∀ n, s.cfg.pollLimit = some n → s.polls + fs.length < n) :
    run (2 * fs.length) s = .next (s.polled fs.length as) := by
  induction fs generalizing s with
  | nil => exact congrArg Host.Outcome.next (State.polled_zero henv).symm
  | cons f fs ih =>
    rw [List.length_cons] at hbelow ⊢
    have hanswer := step_of_polling_of_answers hs henv
    have htake := step_of_answered_notReady (as := fs.map (fun f => .bytes (statusBytes f)) ++ as) hs
      (hrdy f List.mem_cons_self) fun n hn => by have := hbelow n hn; omega
    have hrest := ih (hs.polled 1 _) rfl (fun f hf => hrdy f (List.mem_cons_of_mem _ hf))
      fun n hn => by have := hbelow n hn; simp only [State.polled]; omega
    rw [State.polled_polled, Nat.add_comm 1] at hrest
    exact (run_succ_of_step hanswer _).trans ((run_succ_of_step htake _).trans hrest)

/-! ### Whole commands -/

/-- The block that has begun POLL_READY in `u` and seen `k` not-ready frames, with the frame `g` on the bus
as the answer to its last read and the answers `as` left. -/
def State.frameAfterPolls (k : Nat) (g : StatusFrame) (as : List Answer) (u : State) : State :=
  { u with
    polls := k, phase := .wPoll, bus := .rdRsp (statusBytes g), env := .answers as
    outputs := List.replicate (k + 1) (.busRead u.addr 5) ++ u.outputs }

theorem State.answered_polled_pollReady (k : Nat) (g : StatusFrame) (as' as : List Answer)
    (u : State) : (u.pollReady.polled k as').answered g as = u.frameAfterPolls k g as := by
  simp [State.answered, State.polled, State.pollReady, State.issueRead, State.frameAfterPolls,
    Config.statusLen, List.replicate_succ']

/-- A command whose acceptance begins POLL_READY in `u`, up to the ready frame: the acceptance, two steps
for each not-ready frame, and the environment's step on the last read. -/
theorem run_of_step_pollReady {fs : List StatusFrame} (hstep : step s = .next u.pollReady)
    (hreq : u.resetReq = none)
    (henv : u.env = .answers
      (fs.map (fun f => .bytes (statusBytes f)) ++ .bytes (statusBytes g) :: as))
    (hrdy : ∀ f ∈ fs, f.b0.getLsbD 7 = false)
    (hbelow : ∀ n, u.cfg.pollLimit = some n → fs.length < n) :
    run (2 * fs.length + 2) s = .next (u.frameAfterPolls fs.length g as) := by
  have hpolling : u.pollReady.Polling := .pollReady hreq
  have hwait := run_of_notReadyFrames hpolling henv hrdy (by simpa using hbelow)
  have hanswer := step_of_polling_of_answers
    (hpolling.polled fs.length (.bytes (statusBytes g) :: as)) rfl
  rw [State.answered_polled_pollReady] at hanswer
  exact (run_succ_of_step hstep _).trans
    ((run_add_of_run hwait 1).trans (run_one_of_step hanswer))

/-- The block takes the frame that ends its polling. -/
theorem step_of_frameAfterPolls {k : Nat} (hreq : u.resetReq = none) :
    step (u.frameAfterPolls k g as) = (u.frameAfterPolls k g as).takeStatus g := by
  rw [step_of_statusFrame (s := u.frameAfterPolls k g as) hreq rfl,
    State.settleDevices_of_answers rfl]

/-- RDEEPROM takes the ready frame one step later. -/
theorem run_of_rdeeprom_polled {fs : List StatusFrame} (hstep : step s = .next u.pollReady)
    (hreq : u.resetReq = none) (hcur : u.cur = .rdeeprom)
    (henv : u.env = .answers
      (fs.map (fun f => .bytes (statusBytes f)) ++ .bytes (statusBytes g) :: as))
    (hrdy : ∀ f ∈ fs, f.b0.getLsbD 7 = false) (hg : g.b0.getLsbD 7 = true)
    (hbelow : ∀ n, u.cfg.pollLimit = some n → fs.length < n) :
    run (2 * fs.length + 3) s = .next ((u.frameAfterPolls fs.length g as).finish
      { status := .ok, mode := (unpackEeprom g).1, value := (unpackEeprom g).2 } none) := by
  have hend := (step_of_frameAfterPolls (k := fs.length) (g := g) (as := as) hreq).trans
    (State.takeStatus_of_rdeeprom rfl hg hcur)
  exact (run_add_of_run (run_of_step_pollReady hstep hreq henv hrdy hbelow) 1).trans
    (run_one_of_step hend)

/-- Three steps: the block's, which sends WREEPROM's write, the environment's step on it, the block's step on
the ack. -/
theorem run_of_step_writeEeprom {a : Bool} (hstep : step s = .next u.writeEeprom)
    (hreq : u.resetReq = none) (hcur : u.cur = .wreeprom) (henv : u.env = .answers (.ack a :: as)) :
    run 3 s = .next ({ u.writeEeprom with env := .answers as }.finish
      { status := .ok, ack := a } none) := by
  have hwrite : step s = .next ({ u with
      mode := if u.cfg.wreepromUpdatesCache then some u.lm else u.mode
      value := if u.cfg.wreepromUpdatesCache then some u.lv else u.value }.issueWrite u.addr
        (packEewr u.lm u.lv)) := by
    rw [hstep, State.writeEeprom_spec, State.issueWrite]
  rw [run_of_step_issueWrite hwrite hreq (by simp [hcur]) henv, State.writeEeprom_spec]
  rfl

/-- WREEPROM takes the ready frame one step later and sends its write, which the listed ack ends in two more
steps. -/
theorem run_of_wreeprom_polled {fs : List StatusFrame} {a : Bool}
    (hstep : step s = .next u.pollReady) (hreq : u.resetReq = none) (hcur : u.cur = .wreeprom)
    (henv : u.env = .answers
      (fs.map (fun f => .bytes (statusBytes f)) ++ .bytes (statusBytes g) :: .ack a :: as))
    (hrdy : ∀ f ∈ fs, f.b0.getLsbD 7 = false) (hg : g.b0.getLsbD 7 = true)
    (hbelow : ∀ n, u.cfg.pollLimit = some n → fs.length < n) :
    run (2 * fs.length + 5) s = .next ((u.frameAfterPolls fs.length g as).writeEeprom.finish
      { status := .ok, ack := a } none) := by
  have hwrite := (step_of_frameAfterPolls (k := fs.length) (g := g) (as := .ack a :: as) hreq).trans
    (State.takeStatus_of_wreeprom rfl hg hcur)
  have hend := run_of_step_writeEeprom hwrite hreq hcur rfl
  rw [State.writeEeprom_spec] at hend ⊢
  exact (run_add_of_run (run_of_step_pollReady hstep hreq henv hrdy hbelow) 3).trans hend

/-- Settles O49: the word's row (O3) gives RDEEPROM, whose acceptance begins POLL_READY. -/
theorem rdeepromReadsUntilReady : Obligations.RdeepromReadsUntilReady := by
  intro s cw rest fs g as hready hhost hrow henv hfs hg hbelow
  obtain ⟨-, -, -, -, -, -, -, hrdeeprom, -⟩ := commandRowsAreSelectedByMaskAndMatch cw
  have haccept : step s = .next (s.accept .rdeeprom false).pollReady := by
    rw [step_of_request hready hhost, State.settleDevices_of_answers henv, decodeRequest,
      hrdeeprom.mp hrow, exec_rdeeprom_of_idle hready.phase]
  rw [run_of_rdeeprom_polled haccept hready.noReset rfl henv hfs hg hbelow]
  simp [State.finish, State.frameAfterPolls, State.accept, hhost, hready.phase, hready.bus]

/-- Settles O50: the word's row (O3) gives WREEPROM, whose acceptance latches its operands and begins
POLL_READY. -/
theorem wreepromWritesOnceAfterReady : Obligations.WreepromWritesOnceAfterReady := by
  intro s cw rest fs g a as hready hhost hrow henv hfs hg hbelow
  obtain ⟨-, -, -, -, -, -, -, -, hwreeprom, -⟩ := commandRowsAreSelectedByMaskAndMatch cw
  have haccept : step s = .next { s.accept .wreeprom false with
      lm := cw.extractLsb' 16 2, lv := cw.extractLsb' 0 12 }.pollReady := by
    rw [step_of_request hready hhost, State.settleDevices_of_answers henv, decodeRequest,
      hwreeprom.mp hrow, exec_wreeprom_of_idle hready.phase, trunc12_field]
  rw [run_of_wreeprom_polled haccept hready.noReset rfl henv hfs hg hbelow]
  simp [State.writeEeprom_spec, State.finish, State.frameAfterPolls, State.accept, hhost,
    hready.phase, hready.bus]

end Sys2Proof.Machine
end

section
/-! Which step sends the EEPROM-write frame (42_eeprom.md R132, R133). -/

namespace Sys2Proof.Machine

variable {s t : State} {f : StatusFrame} {a : Addr} {w : Frame}

/-! ### What an acceptance puts out -/

/-- No write of three bytes; the EEPROM-write frame is the only frame of that length (30_encoding.md R89). -/
def Output.NoThreeByteWrite : Output → Prop
  | .busWrite _ f => f.length ≠ 3
  | .busRead _ _ => True
  | .done _ _ => True

@[simp] theorem Output.noThreeByteWrite_busWrite (a : Addr) (f : Frame) :
    (Output.busWrite a f).NoThreeByteWrite ↔ f.length ≠ 3 := Iff.rfl

theorem noThreeByteWrite_packFast (a : Addr) (m : PowerMode) (v : DacValue) :
    (Output.busWrite a (packFast m v)).NoThreeByteWrite := by simp [packFast]

/-- The acceptance of an opcode puts out one thing: a frame of at most two bytes, a read or a response. -/
theorem decodeOpcode_output (op : BitVec 4) (m : PowerMode) (v : BitVec 16) (s : State) :
    ∃ t o, exec (decodeOpcode op m v) s = s.whenIdle t ∧ t.outputs = o :: s.outputs ∧
      o.NoThreeByteWrite := by
  unfold decodeOpcode
  split
  · exact ⟨_, _, rfl, rfl, by simp⟩
  · exact ⟨_, _, rfl, rfl, by simp⟩
  · exact ⟨_, _, rfl, rfl, by simp⟩
  · exact ⟨_, _, rfl, rfl, trivial⟩
  · exact ⟨_, _, rfl, State.wrDac_outputs _, noThreeByteWrite_packFast _ _ _⟩
  · exact ⟨_, _, rfl, rfl, trivial⟩
  · exact ⟨_, _, rfl, State.wrDac_outputs _, noThreeByteWrite_packFast _ _ _⟩
  all_goals exact ⟨_, _, rfl, rfl, trivial⟩

/-- The same for whatever the host presents. -/
theorem decodeRequest_output (r : Request) (s : State) :
    ∃ t o, exec (decodeRequest r) s = s.whenIdle t ∧ t.outputs = o :: s.outputs ∧
      o.NoThreeByteWrite := by
  cases r with
  | word cw =>
    simp only [decodeRequest, decodeCommand]
    split
    · exact decodeOpcode_output _ _ _ s
    · exact ⟨_, _, rfl, rfl, trivial⟩
  | write v => exact ⟨_, _, rfl, State.wrDac_outputs _, noThreeByteWrite_packFast _ _ _⟩
  | read => exact ⟨_, _, rfl, rfl, trivial⟩

/-! ### What the block's other steps put out -/

/-- The block's step on a status frame writes only if the frame is ready and a WREEPROM waits for it. -/
theorem State.takeStatus_writes (h : s.takeStatus f = .next t)
    (hout : t.outputs = .busWrite a w :: s.outputs) :
    s.phase = .wPoll ∧ s.cur = .wreeprom ∧ rdy f = true ∧ a = s.addr ∧ w = packEewr s.lm s.lv := by
  obtain ⟨-, hdac⟩ | ⟨hphase, hpoll⟩ := State.takeStatus_eq_next h
  · obtain ⟨-, rfl⟩ | ⟨-, rfl⟩ := State.takeDacFrame_eq_next hdac <;> simp at hout
  · obtain ⟨-, rfl⟩ | ⟨-, -, rfl⟩ | ⟨hrdy, hcur, rfl⟩ := State.takePollFrame_eq_next hpoll
    · obtain ⟨-, heq⟩ | ⟨-, heq⟩ := s.pollAgain_cases <;> simp [heq] at hout
    · simp at hout
    · rw [State.writeEeprom_outputs, List.cons.injEq, Output.busWrite.injEq] at hout
      obtain ⟨⟨haddr, hframe⟩, -⟩ := hout
      exact ⟨hphase, hcur, hrdy, haddr.symm, hframe.symm⟩

/-- A step that runs no instruction writes nothing. -/
theorem State.otherStep_writes_nothing (h : s.otherStep = .next t) :
    t.outputs ≠ .busWrite a w :: s.outputs := by
  obtain ⟨-, rfl⟩ | ⟨a, f, -, rfl⟩ | ⟨a, -, rfl⟩ | ⟨k, -, hack⟩ := State.otherStep_eq_next h
  · simp
  · simp
  · simp
  · obtain ⟨-, -, rfl⟩ := State.takeAck_eq_next hack
    simp

/-- Settles O42: of the places an instruction comes from, the port never gives a three-byte write, a frame to
the devices none at all, and a status frame only WREEPROM's. -/
theorem eepromIsWrittenOnlyAfterAReadyFrame : Obligations.EepromIsWrittenOnlyAfterAReadyFrame := by
  intro s t a b0 b1 b2 h hout
  rw [← s.settleDevices_outputs] at hout
  obtain ⟨_, -, rfl⟩ | ⟨-, i, hfetch, hexec⟩ | ⟨-, -, hother⟩ := State.stepWith_eq_next h
  · exact absurd hout.symm (List.cons_ne_self _ _)
  · rw [← s.settleDevices_fetch] at hfetch
    obtain ⟨-, hphase, r, rfl⟩ | ⟨_, _, -, hserve⟩ | ⟨f, hbus, rfl⟩ := State.fetch_eq_some hfetch
    · obtain ⟨u, o, haccept, hu, ho⟩ := decodeRequest_output r s.settleDevices
      rw [haccept, State.whenIdle_of_idle hphase] at hexec
      cases hexec
      cases hu.symm.trans hout
      exact absurd rfl ho
    · rw [hserve] at hexec
      cases hexec
      simp at hout
    · obtain ⟨hphase, hcur, hrdy, haddr, hframe⟩ := State.takeStatus_writes hexec hout
      simp only [State.settleDevices_phase, State.settleDevices_cur, State.settleDevices_addr,
        State.settleDevices_lm, State.settleDevices_lv, State.settleDevices_bus]
        at hphase hcur haddr hframe hbus
      exact ⟨hphase, hcur, haddr, hframe, f, hbus, hrdy⟩
  · exact absurd hout (State.otherStep_writes_nothing hother)

end Sys2Proof.Machine
end

section
/-! The normalized front end (43_normalized.md): the two conversions over the rationals, and WRITE followed by
READ through one reference device. -/

namespace Sys2Proof.Machine

/-! ### The clamp -/

section Conversions
variable {v w : NormNum}

theorem clamp01_of_nonpos (h : v ≤ 0) : clamp01 v = 0 := by
  obtain hlt | rfl := h.lt_or_eq
  · rw [clamp01, if_pos hlt]
  · rfl

theorem clamp01_of_one_le (h : 1 ≤ v) : clamp01 v = 1 := by
  rw [clamp01, if_neg (zero_le_one.trans h).not_gt]
  exact ite_eq_left_iff.mpr fun hle => le_antisymm (not_lt.mp hle) h

theorem clamp01_of_mem (h0 : 0 ≤ v) (h1 : v ≤ 1) : clamp01 v = v := by
  rw [clamp01, if_neg h0.not_gt, if_neg h1.not_gt]

/-- The clamp by lattice operations, whose order lemmas are the library's. -/
theorem clamp01_eq_max_min (v : NormNum) : clamp01 v = max 0 (min v 1) := by
  obtain h0 | h0 := le_total v 0
  · rw [clamp01_of_nonpos h0, max_eq_left ((min_le_left v 1).trans h0)]
  obtain h1 | h1 := le_total v 1
  · rw [clamp01_of_mem h0 h1, min_eq_left h1, max_eq_right h0]
  · rw [clamp01_of_one_le h1, min_eq_right h1, max_eq_right zero_le_one]

theorem clamp01_nonneg (v : NormNum) : 0 ≤ clamp01 v := by
  rw [clamp01_eq_max_min]; exact le_max_left _ _

theorem clamp01_le_one (v : NormNum) : clamp01 v ≤ 1 := by
  rw [clamp01_eq_max_min]; exact max_le zero_le_one (min_le_right _ _)

theorem clamp01_mono (h : v ≤ w) : clamp01 v ≤ clamp01 w := by
  rw [clamp01_eq_max_min, clamp01_eq_max_min]
  exact max_le_max_left _ (min_le_min_right _ h)

/-! ### norm_to_u12 (43_normalized.md R151) -/

/-- The 12 bits lose nothing of the truncated product: it is at most 4095. -/
theorem normToU12_toNat (v : NormNum) : (normToU12 v).toNat = ⌊clamp01 v * 4095⌋₊ := by
  have hle : ⌊clamp01 v * 4095⌋₊ ≤ 4095 :=
    Nat.floor_le_of_le (by push_cast; linarith [clamp01_le_one v])
  exact (BitVec.toNat_ofNat _ _).trans (Nat.mod_eq_of_lt (Nat.lt_succ_of_le hle))

theorem normToU12_toNat_of_mem (h0 : 0 ≤ v) (h1 : v ≤ 1) : (normToU12 v).toNat = ⌊v * 4095⌋₊ := by
  rw [normToU12_toNat, clamp01_of_mem h0 h1]

theorem normToU12_of_nonpos (h : v ≤ 0) : normToU12 v = 0 :=
  BitVec.eq_of_toNat_eq (by rw [normToU12_toNat, clamp01_of_nonpos h]; simp)

theorem normToU12_of_one_le (h : 1 ≤ v) : normToU12 v = 4095 :=
  BitVec.eq_of_toNat_eq (by rw [normToU12_toNat, clamp01_of_one_le h]; simp)

/-- Truncation leaves the largest value to the operands of at least 1: below 1 the product is below 4095. -/
theorem normToU12_eq_max_iff : normToU12 v = 4095 ↔ 1 ≤ v := by
  refine ⟨fun hmax => not_lt.mp fun hlt => ?_, normToU12_of_one_le⟩
  have hclamp : clamp01 v < 1 := by
    rw [clamp01_eq_max_min]; exact max_lt zero_lt_one ((min_le_left v 1).trans_lt hlt)
  have hbelow : (normToU12 v).toNat < 4095 := by
    rw [normToU12_toNat, Nat.floor_lt (mul_nonneg (clamp01_nonneg v) (by norm_num))]
    push_cast
    linarith
  exact hbelow.ne (congrArg BitVec.toNat hmax)

theorem normToU12_mono (h : v ≤ w) : (normToU12 v).toNat ≤ (normToU12 w).toNat := by
  rw [normToU12_toNat, normToU12_toNat]
  exact Nat.floor_mono (mul_le_mul_of_nonneg_right (clamp01_mono h) (by norm_num))

/-- The multiples of 1/4095 in [0, 1] are converted without loss. -/
theorem normToU12_div_toNat {k : Nat} (h : k ≤ 4095) :
    (normToU12 ((k : NormNum) / 4095)).toNat = k := by
  have hle : (k : NormNum) / 4095 ≤ 1 := div_le_one_of_le₀ (by exact_mod_cast h) (by norm_num)
  rw [normToU12_toNat_of_mem (by positivity) hle, div_mul_cancel₀ _ (by norm_num), Nat.floor_natCast]

/-- Settles O12: each clause is the truncated product at the clamp's value. -/
theorem normToU12ClampsAndTruncates : Obligations.NormToU12ClampsAndTruncates := by
  refine ⟨fun v h => normToU12_of_nonpos h.le, fun v h => normToU12_of_one_le h.le, fun v h0 h1 => ?_,
    BitVec.eq_of_toNat_eq ?_, fun v => normToU12_eq_max_iff, fun k h => normToU12_div_toNat h⟩
  · rw [normToU12_toNat_of_mem h0 h1]
    exact Int.natCast_floor_eq_floor (mul_nonneg h0 (by norm_num))
  · have hfloor : ⌊(1 / 2 : NormNum) * 4095⌋₊ = 2047 := by norm_num
    exact (normToU12_toNat_of_mem (by norm_num) (by norm_num)).trans hfloor

/-! ### u12_to_norm (43_normalized.md R152), and back -/

theorem u12ToNorm_eq (x : DacValue) : u12ToNorm x = (x.toNat : NormNum) / 4095 := rfl

theorem u12ToNorm_mul (x : DacValue) : u12ToNorm x * 4095 = (x.toNat : NormNum) := by
  rw [u12ToNorm_eq, div_mul_cancel₀ _ (by norm_num)]

theorem u12ToNorm_nonneg (x : DacValue) : 0 ≤ u12ToNorm x := by
  rw [u12ToNorm_eq]; positivity

theorem u12ToNorm_le_one (x : DacValue) : u12ToNorm x ≤ 1 :=
  div_le_one_of_le₀ (by exact_mod_cast Nat.le_of_lt_succ x.isLt) (by norm_num)

theorem normToU12_u12ToNorm (x : DacValue) : normToU12 (u12ToNorm x) = x :=
  BitVec.eq_of_toNat_eq (normToU12_div_toNat (Nat.le_of_lt_succ x.isLt))

/-- Settles O13: a 12-bit value is a multiple of 1/4095, and clamp, product and floor are each monotone. -/
theorem normalizedConversionsRoundTripAndAreMonotone :
    Obligations.NormalizedConversionsRoundTripAndAreMonotone :=
  ⟨normToU12_u12ToNorm, fun x => ⟨u12ToNorm_nonneg x, u12ToNorm_le_one x, u12ToNorm_mul x⟩,
    fun _ _ h => normToU12_mono h⟩

/-- What there and back loses of an operand in [0, 1]: the cut fraction of the product, over 4095. -/
theorem sub_u12ToNorm_normToU12 (h0 : 0 ≤ v) (h1 : v ≤ 1) :
    0 ≤ v - u12ToNorm (normToU12 v) ∧ v - u12ToNorm (normToU12 v) < 1 / 4095 := by
  have hprod : u12ToNorm (normToU12 v) * 4095 = (⌊v * 4095⌋₊ : NormNum) := by
    rw [u12ToNorm_mul, normToU12_toNat_of_mem h0 h1]
  have hfloor : (⌊v * 4095⌋₊ : NormNum) ≤ v * 4095 := Nat.floor_le (mul_nonneg h0 (by norm_num))
  have hnext : v * 4095 < (⌊v * 4095⌋₊ : NormNum) + 1 := Nat.lt_floor_add_one _
  constructor <;> linarith

end Conversions

/-! ### WRITE, then READ, through one reference device -/

section Device
variable {s : State} {d : Device} {rest : List Request}

/-- WRITE from the open port, up to its response, puts the converted operand in the device of ADDR. -/
theorem run_of_write_at_device {v : NormNum} (hready : s.Ready) (hhost : s.host = .write v :: rest)
    (henv : s.env = .devices [d]) (hown : d.devAddr = s.addr) (haddr : s.addr ≠ Config.broadcast)
    (hbusy : d.busy = false) :
    ∃ t d', run 3 s = .next t ∧ t.Ready ∧ t.host = rest ∧ t.env = .devices [d'] ∧
      d'.devAddr = t.addr ∧ d'.present = d.present ∧ d'.dval = normToU12 v := by
  have hstep : step s =
      .next ((s.settleDevices.accept .wru12 false).setValue (normToU12 v)).wrDac := by
    rw [step_of_request hready hhost, decodeRequest, exec_write_eq_wru12,
      exec_wru12_of_idle (by simpa using hready.phase), trunc12_zext16]
  have hsettled : s.settleDevices.env = .devices [d.settle s.draws] := by
    rw [State.settleDevices_of_devices henv, List.map_singleton]
  obtain ⟨t, d', hrun, hw⟩ := fastWritten_of_step_wrDac hstep (by simpa using hready.noReset)
    (.inr rfl) (by simpa using haddr) hsettled (by simpa using hown) (d.settle_busy_of_not _ hbusy)
  refine ⟨t, d', hrun, hw.ready, ?_, hw.env, ?_, hw.present,
    hw.dval.trans (State.keepMode_valueRead_setValue _)⟩
  · rw [hw.host]; simp [hhost]
  · rw [hw.devAddr, hw.addr]; simp [hown]

/-- READ from the open port, up to its response, returns the quotient of the DAC register's value. -/
theorem run_of_read_at_device (hready : s.Ready) (hhost : s.host = .read :: rest)
    (henv : s.env = .devices [d]) (hown : d.devAddr = s.addr) (hpresent : d.present = true) :
    ∃ t, run 3 s = .next t ∧ t.host = rest ∧
      t.outputs.head? = some (.done { status := .ok, value := d.dval } (some (u12ToNorm d.dval))) := by
  have hstep : step s = .next (s.settleDevices.accept .rdval true).rdDac :=
    (step_of_request hready hhost).trans (exec_read_of_idle (by simpa using hready.phase))
  obtain ⟨t, hrun, -, hrest, -, -, hout⟩ :=
    run_of_step_rdDac (d := d.settle s.draws) hstep (by simpa using hready.noReset) rfl
      (by rw [State.accept_env, State.settleDevices_of_devices henv, List.map_singleton])
      (by simpa using hown) hpresent
  refine ⟨t, hrun, ?_, ?_⟩
  · rw [hrest]; simp [hhost]
  · rw [hout]; simp

end Device

/-- Settles O56: READ returns the quotient of the value that WRITE left in the device. -/
theorem normalizedWriteReadsBackWithinOneStep : Obligations.NormalizedWriteReadsBackWithinOneStep := by
  intro s v rest d hready hhost henv hown haddr hpresent hbusy h0 h1
  obtain ⟨t, d', hwrite, hready', hhost', henv', hown', hpresent', hdval⟩ :=
    run_of_write_at_device hready hhost henv hown haddr hbusy
  obtain ⟨t', hread, hrest, hout⟩ :=
    run_of_read_at_device hready' hhost' henv' hown' (hpresent'.trans hpresent)
  rw [hdval] at hout
  exact ⟨t', _, _, (run_add_of_run hwrite 3).trans hread, hrest, hout, sub_u12ToNorm_normToU12 h0 h1⟩

end Sys2Proof.Machine
end

section
/-! The exceptions (60_exceptions.md): illegal words, inputs outside the protocol, the poll limit's TIMEOUT, and
the unbounded wait without one. -/

namespace Sys2Proof.Machine

variable {s t u : State} {f : Frame} {fs : List StatusFrame} {as : List Answer}

/-! ### Illegal words (R160) -/

/-- Settles O20: an illegal word decodes to one of the reserved rows, which answer ILLEGAL (O21). -/
theorem illegalWordsAreAnsweredAndHaveNoEffect :
    Obligations.IllegalWordsAreAnsweredAndHaveNoEffect := by
  refine ⟨fun cw s hillegal hidle => ?_, rfl⟩
  obtain ⟨hopcodes, hreserved⟩ := everyReservedRowCompletesWithIllegal s hidle
  by_cases hrsv : cwRsv cw = 0#2
  · have hop : 9 ≤ cwOp cw := hillegal.resolve_left (absurd hrsv)
    rw [decodeCommand_of_rsv_zero hrsv]
    exact hopcodes _ (decodeOpcode_reserved hop _ _)
  · rw [decodeCommand, if_neg hrsv]
    exact hreserved _ _ _ _

/-! ### Inputs outside the protocol (R175) -/

@[simp] theorem State.pollAgain_host (s : State) : s.pollAgain.host = s.host := by
  unfold State.pollAgain; split <;> rfl
@[simp] theorem State.writeEeprom_host (s : State) : s.writeEeprom.host = s.host := by
  rw [writeEeprom_spec]

/-- The one transition that takes a request from the host is an acceptance. -/
theorem Transition.host_of_not_idle (h : Transition s t) (hphase : s.phase ≠ .idle) :
    t.host = s.host := by
  cases h with
  | accept _ hidle => exact absurd hidle hphase
  | reset | wait | ack | loadCache | readEeprom => rfl
  | serveWrite | serveRead | pollAgain | writeEeprom => simp

theorem State.takeAck_of_not_wAck (a : Bool) (h : s.phase ≠ .wAck) :
    s.takeAck a = .refused .unsolicitedAck := by
  cases hphase : s.phase with
  | wAck => exact absurd hphase h
  | idle | wDac | wPoll => rw [State.takeAck, hphase]

theorem State.takeStatus_of_not_awaiting (x : StatusFrame) (hdac : s.phase ≠ .wDac)
    (hpoll : s.phase ≠ .wPoll) : s.takeStatus x = .refused .unsolicitedFrame := by
  cases hphase : s.phase with
  | wDac => exact absurd hphase hdac
  | wPoll => exact absurd hphase hpoll
  | idle | wAck => rw [State.takeStatus, hphase]

theorem State.refuseFrame_of_not_awaiting (hdac : s.phase ≠ .wDac) (hpoll : s.phase ≠ .wPoll) :
    s.refuseFrame = .refused .unsolicitedFrame := by
  cases hphase : s.phase with
  | wDac => exact absurd hphase hdac
  | wPoll => exact absurd hphase hpoll
  | idle | wAck => rw [State.refuseFrame, hphase]

theorem State.refuseFrame_of_awaiting (h : s.phase = .wDac ∨ s.phase = .wPoll) :
    s.refuseFrame = .refused .badFrameLength := by
  obtain hphase | hphase := h <;> rw [State.refuseFrame, hphase]

/-- An answer of another length decodes to no instruction. -/
theorem State.fetch_of_badLength (hbus : s.bus = .rdRsp f) (hlen : f.length ≠ 5) :
    s.fetch = none := by
  cases hfetch : s.fetch with
  | none => rfl
  | some i =>
    rw [State.fetch_of_rdRsp hbus, toOption_eq_some] at hfetch
    obtain ⟨x, rfl, -⟩ := decodeStatus_eq_ok hfetch
    exact absurd rfl hlen

/-- An ack on the bus is taken, after the devices' own steps. -/
theorem step_of_wrRsp {a : Bool} (hreq : s.resetReq = none) (hbus : s.bus = .wrRsp a) :
    step s = s.settleDevices.takeAck a := by
  rw [step_of_fetch_none hreq (State.fetch_of_wrRsp hbus), State.otherStep, s.settleDevices_bus, hbus]

/-- An answer that is not five bytes is refused, after the devices' own steps. -/
theorem step_of_badLength (hreq : s.resetReq = none) (hbus : s.bus = .rdRsp f)
    (hlen : f.length ≠ 5) : step s = s.settleDevices.refuseFrame := by
  rw [step_of_fetch_none hreq (State.fetch_of_badLength hbus hlen), State.otherStep,
    s.settleDevices_bus, hbus]

/-- Bytes that nobody awaits are refused, whatever their number. -/
theorem step_of_unsolicitedFrame (hreq : s.resetReq = none) (hbus : s.bus = .rdRsp f)
    (hdac : s.phase ≠ .wDac) (hpoll : s.phase ≠ .wPoll) :
    step s = .refused .unsolicitedFrame := by
  rw [← s.settleDevices_phase] at hdac hpoll
  by_cases hlen : f.length = 5
  · obtain ⟨i, hdecode⟩ := decodeStatus_of_length hlen
    obtain ⟨x, rfl, -⟩ := decodeStatus_eq_ok hdecode
    exact (step_of_statusFrame hreq hbus).trans (State.takeStatus_of_not_awaiting x hdac hpoll)
  · exact (step_of_badLength hreq hbus hlen).trans (State.refuseFrame_of_not_awaiting hdac hpoll)

/-- Settles O33: each input is refused by the operation that would take it, for the phase or the length. -/
theorem inputsOutsideTheProtocolAreRefused : Obligations.InputsOutsideTheProtocolAreRefused := by
  refine ⟨fun s r hphase => ?port, fun s t hphase hstep => ?host, fun s a hreq hbus hphase => ?ack,
    fun s f hreq hbus hdac hpoll => step_of_unsolicitedFrame hreq hbus hdac hpoll,
    fun s f hreq hbus hphase hlen => ?length,
    fun s r rest hready hhost => step_of_request hready hhost⟩
  case port =>
    obtain ⟨t, -, hexec⟩ := acceptance_decodeRequest r s
    exact hexec.trans (State.whenIdle_of_not_idle hphase)
  case host =>
    rw [← s.settleDevices_phase] at hphase
    exact ((transition_of_step hstep).host_of_not_idle hphase).trans s.settleDevices_host
  case ack =>
    rw [← s.settleDevices_phase] at hphase
    exact (step_of_wrRsp hreq hbus).trans (State.takeAck_of_not_wAck a hphase)
  case length =>
    rw [← s.settleDevices_phase] at hphase
    exact (step_of_badLength hreq hbus hlen).trans (State.refuseFrame_of_awaiting hphase)

/-! ### The acceptance of the EEPROM commands at the open port -/

section Words
variable {cw : CmdWord} {rest : List Request}

theorem step_of_rdeeprom_word (hready : s.Ready) (hhost : s.host = .word cw :: rest)
    (henv : s.env = .answers as) (hrow : cw &&& 0xFC0000 = 0x700000) :
    step s = .next (s.accept .rdeeprom false).pollReady := by
  obtain ⟨-, -, -, -, -, -, -, hrdeeprom, -⟩ := commandRowsAreSelectedByMaskAndMatch cw
  rw [step_of_request hready hhost, State.settleDevices_of_answers henv, decodeRequest,
    hrdeeprom.mp hrow, exec_rdeeprom_of_idle hready.phase]

theorem step_of_wreeprom_word (hready : s.Ready) (hhost : s.host = .word cw :: rest)
    (henv : s.env = .answers as) (hrow : cw &&& 0xFC0000 = 0x800000) :
    step s = .next { s.accept .wreeprom false with
      lm := cw.extractLsb' 16 2, lv := cw.extractLsb' 0 12 }.pollReady := by
  obtain ⟨-, -, -, -, -, -, -, -, hwreeprom, -⟩ := commandRowsAreSelectedByMaskAndMatch cw
  rw [step_of_request hready hhost, State.settleDevices_of_answers henv, decodeRequest,
    hwreeprom.mp hrow, exec_wreeprom_of_idle hready.phase, trunc12_field]

/-- Both commands begin POLL_READY at once, with nothing but the acceptance and the latches before it. -/
theorem step_of_eeprom_word (hready : s.Ready) (hhost : s.host = .word cw :: rest)
    (henv : s.env = .answers as)
    (hrow : cw &&& 0xFC0000 = 0x700000 ∨ cw &&& 0xFC0000 = 0x800000) :
    ∃ c m v, step s = .next { s.accept c false with lm := m, lv := v }.pollReady := by
  obtain hrow | hrow := hrow
  · exact ⟨_, s.lm, s.lv, step_of_rdeeprom_word hready hhost henv hrow⟩
  · exact ⟨_, _, _, step_of_wreeprom_word hready hhost henv hrow⟩

end Words

/-! ### The poll limit (R163) -/

/-- The block that has begun POLL_READY in `u` and ended it with TIMEOUT after `k` not-ready frames, with the
answers `as` left. -/
def State.timedOut (k : Nat) (as : List Answer) (u : State) : State :=
  { u with
    polls := k, phase := .idle, bus := .quiet, env := .answers as
    outputs := .done { status := .timeout } none
      :: (List.replicate k (.busRead u.addr 5) ++ u.outputs) }

/-- The not-ready frame that reaches the limit ends the command with TIMEOUT. -/
theorem step_of_frameAfterPolls_reached {g : StatusFrame} {k : Nat} (hreq : u.resetReq = none)
    (hrdy : g.b0.getLsbD 7 = false) (hlimit : u.cfg.pollLimit = some (k + 1)) :
    step (u.frameAfterPolls k g as) = .next (u.timedOut (k + 1) as) := by
  rw [step_of_frameAfterPolls hreq, State.takeStatus_of_notReady rfl hrdy,
    State.pollAgain_of_reached (s := u.frameAfterPolls k g as) hlimit le_rfl]
  rfl

/-- A command whose acceptance begins POLL_READY in `u`, against as many not-ready frames as the limit: all
but the last are below the limit, the last reaches it. -/
theorem run_of_pollLimit_reached (hstep : step s = .next u.pollReady) (hreq : u.resetReq = none)
    (hpos : 1 ≤ fs.length) (hlimit : u.cfg.pollLimit = some fs.length)
    (henv : u.env = .answers (fs.map (fun f => .bytes (statusBytes f)) ++ as))
    (hrdy : ∀ f ∈ fs, f.b0.getLsbD 7 = false) :
    run (2 * fs.length + 1) s = .next (u.timedOut fs.length as) := by
  obtain rfl | ⟨init, last, rfl⟩ := fs.eq_nil_or_concat'
  · exact absurd hpos (by simp)
  · rw [List.length_append, List.length_singleton] at hlimit ⊢
    have hwait := run_of_step_pollReady (fs := init) (g := last) (as := as) hstep hreq
      (by simpa using henv) (fun f hf => hrdy f (List.mem_append_left _ hf))
      fun n hn => by rw [hlimit, Option.some.injEq] at hn; omega
    have hlast := step_of_frameAfterPolls_reached (as := as) hreq
      (hrdy last (List.mem_append_right _ List.mem_cons_self)) hlimit
    exact (run_add_of_run hwait 1).trans (run_one_of_step hlast)

/-- Settles O51: both commands begin POLL_READY with their latches set, and its last frame reaches the limit. -/
theorem pollLimitEndsWithTimeout : Obligations.PollLimitEndsWithTimeout := by
  refine ⟨rfl, fun s cw rest fs as hready hhost hpos hlimit henv hrdy =>
    ⟨fun hrow => ?rdeeprom, fun hrow => ?wreeprom⟩⟩
  case rdeeprom =>
    have haccept := step_of_rdeeprom_word hready hhost henv hrow
    rw [run_of_pollLimit_reached haccept hready.noReset hpos hlimit henv hrdy]
    simp [State.timedOut, State.accept, hhost, hready.phase, hready.bus]
  case wreeprom =>
    have haccept := step_of_wreeprom_word hready hhost henv hrow
    rw [run_of_pollLimit_reached haccept hready.noReset hpos hlimit henv hrdy]
    simp [State.timedOut, State.accept, hhost, hready.phase, hready.bus]

/-! ### The unbounded wait (R162) -/

/-- Without a limit, a command whose acceptance begins POLL_READY in `u` polls on through any number of
not-ready frames. -/
theorem run_of_no_pollLimit (hstep : step s = .next u.pollReady) (hreq : u.resetReq = none)
    (hlimit : u.cfg.pollLimit = none)
    (henv : u.env = .answers (fs.map (fun f => .bytes (statusBytes f)) ++ as))
    (hrdy : ∀ f ∈ fs, f.b0.getLsbD 7 = false) :
    run (2 * fs.length + 1) s = .next (u.pollReady.polled fs.length as) := by
  have hbelow : ∀ n, u.cfg.pollLimit = some n → u.pollReady.polls + fs.length < n := by
    simp [hlimit]
  exact (run_succ_of_step hstep _).trans (run_of_notReadyFrames (.pollReady hreq) henv hrdy hbelow)

/-- Settles O52: the block is polling after the frames, one read for each and one outstanding. -/
theorem unboundedWaitNeverCompletes : Obligations.UnboundedWaitNeverCompletes := by
  intro s cw rest fs as hready hhost hrow hlimit henv hrdy
  obtain ⟨c, m, v, haccept⟩ := step_of_eeprom_word hready hhost henv hrow
  refine ⟨_, run_of_no_pollLimit haccept hready.noReset hlimit henv hrdy, rfl, rfl, Nat.zero_add _,
    congrArg List.tail hhost, rfl, rfl, ?outputs⟩
  simp [State.polled, Config.statusLen, List.replicate_succ']

end Sys2Proof.Machine
end

section
/-! Reset and hazards (70_reset_and_hazards.md): the reset event, and the cache that GCWAKE leaves stale. -/

namespace Sys2Proof.Machine

variable {s u : State} {d : Device} {m : PowerMode} {rest : List Request}

/-! ### The reset event (R180 to R183) -/

/-- A raised reset is due before anything else, after the devices' own steps. -/
theorem step_of_resetReq {a : Addr} (hreq : s.resetReq = some a) :
    step s = .next (s.settleDevices.resetBlock a) := by
  simp [step, State.stepWith, State.dueWith, hreq]

/-- With nothing outstanding no request is delivered, so the environment is untouched. -/
theorem State.resetBlock_of_quiet (a : Addr) (hbus : s.bus = .quiet) :
    s.resetBlock a = { State.construct s.cfg a with
      host := s.host, env := s.env, outputs := s.outputs, draws := s.draws } := by
  simp [State.resetBlock, State.deliver, hbus]

/-- Settles O36: the step is the block's construction anew around what the host and the environment hold. -/
theorem resetEventRebuildsTheBlockAlone : Obligations.ResetEventRebuildsTheBlockAlone := by
  intro s a hreq
  have hcfg : s.settleDevices.cfg = s.cfg := s.settleDevices_cfg
  refine ⟨_, step_of_resetReq hreq, hcfg, rfl, rfl, rfl, ?mode, ?value, rfl, rfl,
    s.settleDevices_host, s.settleDevices_outputs, fun hbus => ?quiet⟩
  case mode => rw [← hcfg]; rfl
  case value => rw [← hcfg]; rfl
  case quiet =>
    rw [State.resetBlock_of_quiet a (s.settleDevices_bus.trans hbus)]
    exact ⟨rfl, rfl⟩

/-! ### One write at one reference device, up to the response -/

/-- A write whose acceptance is `u.issueWrite w f` reaches the one device on the bus, which takes its own step
before the frame and again before the ack. -/
theorem run_of_step_issueWrite_at_device {w : Addr} {f : Frame}
    (hstep : step s = .next (u.issueWrite w f)) (hreq : u.resetReq = none)
    (hcur : u.cur ∈ [Command.probe, .gcreset, .gcwake, .setmode, .wru12, .wreeprom])
    (henv : u.env = .devices [d]) :
    run 3 s = .next (({ u with
        env := .devices [((d.settle u.draws).takeWrite u.cfg w f).settle (u.draws + 1)]
        draws := u.draws + 2 }.issueWrite w f).finish
      { status := .ok, ack := (d.settle u.draws).acks w } none) := by
  have hserve : step (u.issueWrite w f) = .next { u.issueWrite w f with
      bus := .wrRsp ((d.settle u.draws).acks w)
      env := .devices [(d.settle u.draws).takeWrite u.cfg w f]
      draws := u.draws + 1 } := by
    have hdevices : (u.issueWrite w f).env = .devices [d] := henv
    rw [step_of_writing (s := u.issueWrite w f) hreq rfl, State.settleDevices_of_devices hdevices,
      State.serveWrite_of_devices rfl]
    simp
  have hack := step_of_ack_at_device (s := { u.issueWrite w f with
      bus := .wrRsp ((d.settle u.draws).acks w)
      env := .devices [(d.settle u.draws).takeWrite u.cfg w f]
      draws := u.draws + 1 }) hreq rfl rfl hcur rfl
  exact (run_succ_of_step hstep 2).trans
    ((run_succ_of_step hserve 1).trans (run_one_of_step hack))

/-! ### The stale cache (R187) -/

/-- What a whole GCWAKE, begun in `s` with the device `d` alone on the bus, leaves: the port open and the cache
as it was, and the device's mode 0. -/
structure Woken (s : State) (d : Device) (t : State) (d' : Device) : Prop where
  ready : t.Ready
  host : t.host = s.host.tail
  addr : t.addr = s.addr
  mode : t.mode = s.mode
  value : t.value = s.value
  env : t.env = .devices [d']
  devAddr : d'.devAddr = d.devAddr
  notBusy : d'.busy = false
  dmode : d'.dmode = 0

/-- GCWAKE from the open port wakes the device at any address, present or absent. -/
theorem woken_of_gcwake (hready : s.Ready) (hhost : s.host = .word 0x200000 :: rest)
    (henv : s.env = .devices [d]) (hbusy : d.busy = false) :
    ∃ t d', run 3 s = .next t ∧ Woken s d t d' := by
  have hstep : step s = .next ((s.settleDevices.accept .gcwake false).issueWrite Config.broadcast
      [Config.gcWakeCode]) :=
    (step_of_request hready hhost).trans
      (exec_gcwake_of_idle (s.settleDevices_phase.trans hready.phase))
  have hrun := run_of_step_issueWrite_at_device (d := d.settle s.draws) hstep
    (s.settleDevices_resetReq.trans hready.noReset) (by simp)
    (by rw [State.accept_env, State.settleDevices_of_devices henv, List.map_singleton])
  refine ⟨_, _, hrun, ⟨⟨rfl, rfl, ?_⟩, ?_, ?_, ?_, ?_, rfl, rfl, ?_, ?_⟩⟩
  all_goals simp [hready.noReset, Device.settle_busy_of_not, hbusy]

/-- WRU12 from the open port, with MODE held, stores the held mode and the operand's low 12 bits in the device
of ADDR. -/
theorem run_of_wru12_at_device {x : BitVec 16} (hready : s.Ready)
    (hhost : s.host = .word (0x600000 ||| x.setWidth 24) :: rest) (henv : s.env = .devices [d])
    (hown : d.devAddr = s.addr) (haddr : s.addr ≠ Config.broadcast) (hbusy : d.busy = false)
    (hmode : s.mode = some m) :
    ∃ t d', run 3 s = .next t ∧ t.mode = some m ∧ t.env = .devices [d'] ∧ d'.dmode = m ∧
      d'.dval = x.setWidth 12 := by
  have hstep : step s =
      .next ((s.settleDevices.accept .wru12 false).setValue (trunc12 x)).wrDac := by
    rw [step_of_request hready hhost, decodeRequest, decodeCommand_wru12,
      exec_wru12_of_idle (s.settleDevices_phase.trans hready.phase)]
  have hsettled : s.settleDevices.env = .devices [d.settle s.draws] := by
    rw [State.settleDevices_of_devices henv, List.map_singleton]
  obtain ⟨t, d', hrun, hw⟩ := fastWritten_of_step_wrDac hstep (by simpa using hready.noReset)
    (.inr rfl) (by simpa using haddr) hsettled (by simpa using hown) (d.settle_busy_of_not _ hbusy)
  have hsent : ((s.settleDevices.accept .wru12 false).setValue (trunc12 x)).modeRead = m :=
    State.modeRead_of_some _ (by simpa using hmode)
  refine ⟨t, d', hrun, hw.mode.trans (congrArg some hsent), hw.env, hw.dmode.trans hsent, ?_⟩
  rw [hw.dval, State.keepMode_valueRead_setValue, trunc12_eq_setWidth]

/-- Settles O54: GCWAKE changes the device's mode and not the cached one, which WRU12 then sends. -/
theorem wakeThenWriteRestoresTheStaleMode : Obligations.WakeThenWriteRestoresTheStaleMode := by
  intro s x rest d m v hready hhost henv hown haddr hbusy hmode hvalue
  obtain ⟨t, e, hwake, hw⟩ := woken_of_gcwake hready hhost henv hbusy
  obtain ⟨t', e', hwrite, hmode', henv', hdmode, hdval⟩ :=
    run_of_wru12_at_device hw.ready (by rw [hw.host, hhost, List.tail_cons]) hw.env
      (by rw [hw.devAddr, hw.addr, hown]) (hw.addr ▸ haddr) hw.notBusy (hw.mode.trans hmode)
  exact ⟨⟨t, e, hwake, hw.env, hw.dmode, hw.mode.trans hmode, hw.value.trans hvalue⟩,
    ⟨t', e', (run_add_of_run hwake 3).trans hwrite, henv', hdmode, hdval, hmode'⟩⟩

end Sys2Proof.Machine
end
